-- ==== Sys2Proof/Word.lean ====
section
/-! DEFINITION. The widths, the numbered things and the tables of the Foramel 4824 (spec/00 section 0.5). -/

namespace Sys2Proof

/-- An octet of the management port, or a character code. -/
abbrev Octet := BitVec 8

/-- A 32-bit word: a run clock value, a serial, a detail word, a payload word. -/
abbrev Word := BitVec 32

/-- Link 0 to 11. -/
abbrev LinkId := Fin 12
/-- Chain position P 1 to 4, held as P - 1. -/
abbrev PosId := Fin 4
/-- Unit index 0 to 47: unit L.P is 4 × L + (P − 1). -/
abbrev UnitId := Fin 48
/-- Feed F00 to F31. -/
abbrev FeedId := Fin 32
/-- Zone Z1 to Z24, held as the zone number less 1. Zone 0 is the `none` of `Option ZoneId`. -/
abbrev ZoneId := Fin 24
/-- Operator op1 to op8, held as the operator number less 1. -/
abbrev OpId := Fin 8
/-- Donor port 0 to 7. -/
abbrev PortId := Fin 8
/-- Lane 0 to 3 of a donor port. -/
abbrev LaneId := Fin 4
/-- Band slot 0 to 7. -/
abbrev SlotId := Fin 8
/-- Plan bank 0 to 3. -/
abbrev BankId := Fin 4
/-- A zone a unit may be homed in or moved to: zone 0 is `none`. -/
abbrev Home := Option ZoneId
/-- An issuer: the venue (issuer 0) is `none`, an operator is `some`. -/
abbrev Issuer := Option OpId
/-- A timer: stopped, or the milliseconds left until its expiry. -/
abbrev Timer := Option Nat

/-- A fixed number of like records. -/
abbrev Tbl (α : Type) (n : Nat) := Vector α n

/-- The table `t` with the record `i` replaced by `f` of it. -/
def Tbl.upd {α : Type} {n : Nat} (t : Tbl α n) (i : Fin n) (f : α → α) : Tbl α n :=
  Vector.set t i.val (f (Vector.get t i)) i.isLt

/-- Every index of a table of `n` records, in number order. -/
def indices (n : Nat) : List (Fin n) :=
  (List.range n).filterMap fun i => if h : i < n then some ⟨i, h⟩ else none

/-- A table whose record `i` is `f i`. -/
def Tbl.make {α : Type} {n : Nat} (f : Fin n → α) : Tbl α n := Vector.ofFn f

end Sys2Proof
end

