-- ==== Sys2Proof/Syntax.lean ====
section
/-! DEFINITION. The commands of the part: one constructor for each row of spec/opcode_table.json, with its operands.
A request carries the fields its rule lists, as sent: a number may lie out of its range, and `none` stands for a
choice octet beyond the values its rule lists (spec/10 R190, R202). -/

namespace Sys2Proof

/-- What MP reads of a taken frame before its fields (spec/10 R190, R201). -/
structure Hdr where
  /-- The request's tag, chosen by the host. -/
  tag : BitVec 16
  /-- The issuer octet: 0 the venue, 1 to 8 an operator. -/
  issuer : Nat
  /-- The body length is the one the kind's fields give (R190 check 2). -/
  lengthOk : Bool := true
  /-- Every form octet of the body is one of the forms its rule lists (R190: else BAD_VALUE by the owning block). -/
  formOk : Bool := true
  deriving DecidableEq, Repr

/-- State of an operator record (spec/01 R1). -/
inductive OperatorState | undefined | active | suspended
  deriving DecidableEq, Repr

/-- Mode of a plan bank (spec/07 R128). -/
inductive PlanMode | fixed | seed
  deriving DecidableEq, Repr

/-- Source class of a fault kind (spec/09 R167). -/
inductive SourceClass | link | unit | feed | port | operator
  deriving DecidableEq, Repr

/-- The window of a present band slot: start in MHz and pairing offset in MHz (spec/01 R6). -/
structure Window where
  start : Nat
  offset : Int
  deriving DecidableEq, Repr

/-- A number field that may also say "all" (FFh, spec/10 R202). -/
inductive NumSel | one (n : Nat) | all
  deriving DecidableEq, Repr

/-- A unit field: L.P, or an index (spec/10 R202). -/
inductive UnitRef | lp (link pos : Nat) | index (n : Nat)
  deriving DecidableEq, Repr

/-- The selector of UNIT_READ (spec/04 R89). -/
inductive UnitSel | unit (u : UnitRef) | link (l : Nat) | all
  deriving DecidableEq, Repr

/-- The selector of ROUTE_READ (spec/02 R33). -/
inductive RouteSel | key (feed zone : Nat) | feed (n : Nat) | zone (n : Nat) | set (n : Nat) | all
  deriving DecidableEq, Repr

/-- The selector of LEVEL_READ (spec/05 R108). -/
inductive LevelSel | feed (n : Nat) | unit (u : UnitRef) | feeds | units
  deriving DecidableEq, Repr

/-- The selector of LOAD_READ (spec/06 R127). -/
inductive LoadSel | unit (u : UnitRef) | units | zone (n : Nat) | zones | spread
  deriving DecidableEq, Repr

/-- "All", or a kind code and a source (spec/09 R178, R179). -/
inductive FaultName | all | one (kind source : Nat)
  deriving DecidableEq, Repr

/-- The selector of FAULT_READ (spec/09 R180). -/
inductive FaultSel
  | all | kind (k : Nat) | source (cls : Option SourceClass) (n : Nat) | kindSource (k n : Nat) | policy
  deriving DecidableEq, Repr

/-- One entry of PLAN_WRITE's marks list: a zone with its five marks (spec/07 R130). -/
structure MarkEntry where
  zone : Nat
  high : Nat
  low : Nat
  hyst : Nat
  dwell : Nat
  auto : Option Bool
  deriving DecidableEq, Repr

/-- A complex sample: 16-bit two's-complement I and Q (spec/00 section 0.5, note 1). -/
structure IQ where
  i : BitVec 16
  q : BitVec 16
  deriving DecidableEq, Repr

/-- The samples of a busy window, each with a stream for every band slot, and the places of the samples from which each change
of the configured band set within it took effect (spec/06 R111, R112, notes/assumptions/25.md). -/
structure BusyWindow where
  samples : List (List IQ)
  cuts : List Nat := []
  deriving DecidableEq, Repr

/-- A returning marker as the receiver sees it: the all-zero marker, or one that is not all zero and differs from
the pattern in `n` bits. The pattern itself is not given (spec/03 R37, R42). -/
inductive Marker | differs (n : Fin 17) | allZero
  deriving DecidableEq, Repr

/-- The four request kinds of the control channel (spec/04 R64). -/
inductive TxnKind | ident | config | status | relay
  deriving DecidableEq, Repr

/-- The content of a request data word: a payload word of the host, or a band slot of a CONFIG (spec/04 R75). -/
inductive ReqData | word (w : Word) | band (slot : Nat) (start : Nat) (offset : Int)
  deriving DecidableEq, Repr

/-- The lasting and other alarms of a STATUS reply (spec/04 R78). -/
structure Alarms where
  paHot : Bool := false
  vswr : Bool := false
  supply : Bool := false
  restarted : Bool := false
  deriving DecidableEq, Repr, Inhabited

/-- The content of a reply data word: one item of an identity record, the word of a STATUS reply, or a word that is
not interpreted. No bit layout of control words is given (spec/04 R64, R72, R78). -/
inductive DataWord
  | typeCode (n : Nat) | serial (w : Word) | power (m : Nat) | range (low high : Nat)
  | status (alarms : Alarms) (temp : Int)
  | word (w : Word)
  deriving DecidableEq, Repr

/-- A control word by its content (spec/04 R64, R65; spec/03 R47): every word that the part sends carries the generation
(spec/03 R50). A position of `none` is "all". -/
inductive CtrlWord
  | idle (gen : Nat)
  | number (link gen counter : Nat)
  | reqHeader (link : Nat) (pos : Option Nat) (gen attempt : Nat) (kind : TxnKind) (count : Nat)
  | reqData (gen : Nat) (d : ReqData)
  | reply
  deriving DecidableEq, Repr

/-- What a reply word carries beside its position, generation and attempt number (spec/04 R65, R67). -/
inductive ReplyPart | header (busy : Bool) (count : Nat) | data (d : DataWord)
  deriving DecidableEq, Repr

/-- A reply word (spec/04 R65): the position is 1 to 4 as the unit sends it. -/
structure ReplyWord where
  pos : Nat
  gen : Nat
  attempt : Nat
  part : ReplyPart
  deriving DecidableEq, Repr

/-- A serial character: the 16 × 10 line samples from the start bit's first low sample on, or what the sampling of
spec/10 R186 makes of them: eight data bits and the stop bit. -/
inductive RxChar | sampled (samples : List Bool) | framed (octet : Octet) (stop : Bool)
  deriving DecidableEq, Repr

/-- The commands: one constructor for each row of spec/opcode_table.json. -/
inductive Instr
  -- tenancy (spec/01)
  | operatorSet (h : Hdr) (op : Nat) (state : Option OperatorState) (label : List Octet) (nc gl : Nat)
  | operatorRead (h : Hdr) (sel : NumSel)
  | bandSet (h : Hdr) (slot : Nat) (window : Option Window)
  | bandRead (h : Hdr)
  | licenceSet (h : Hdr) (op slot : Nat) (blocks : BitVec 32)
  | feedDefine (h : Hdr) (feed op slot first count port lane : Nat)
  | feedEnableOn (h : Hdr) (feed : Nat)
  | feedEnableOff (h : Hdr) (feed : Nat)
  | feedMuteOn (h : Hdr) (feed : Nat)
  | feedMuteOff (h : Hdr) (feed : Nat)
  | feedRelease (h : Hdr) (feed : Nat)
  | feedRead (h : Hdr) (sel : NumSel)
  | lockInputChange (port : PortId) (high : Bool)
  | donorPortLocked (port : PortId)
  | donorPortUnlocked (port : PortId)
  -- zones and routes (spec/02)
  | zoneDefineOn (h : Hdr) (zone : Nat) (label : List Octet)
  | zoneDefineOff (h : Hdr) (zone : Nat)
  | zoneRead (h : Hdr) (sel : NumSel)
  | routeAdd (h : Hdr) (feed zone : Nat) (level : Int) (uplink : Option (Option Bool))
  | routeLevel (h : Hdr) (feed zone : Nat) (level : Int) (uplink : Option (Option Bool))
  | routeRemove (h : Hdr) (feed zone : Nat)
  | routeRead (h : Hdr) (sel : RouteSel)
  -- fibre links (spec/03)
  | linkEnable (h : Hdr) (link : Nat)
  | linkDisable (h : Hdr) (link : Nat)
  | linkRestart (h : Hdr) (link : Nat)
  | linkLoopbackOn (h : Hdr) (link : Nat)
  | linkLoopbackOff (h : Hdr) (link : Nat)
  | linkRead (h : Hdr) (sel : NumSel)
  | preambleEnd (link : LinkId)
  | markerReceived (link : LinkId) (m : Marker)
  | loopbackTestWord (link : LinkId) (word : Word)
  | alignmentTimerExpiry (link : LinkId)
  | noiseWindowExpiry (link : LinkId)
  | numberWordReturn (link : LinkId) (wordLink gen count : Nat)
  | numberTimeout (link : LinkId)
  -- remote units and the control channel (spec/04)
  | transactionStart (link : LinkId)
  | requestWordSent (link : LinkId)
  | echoReceived (link : LinkId) (word : CtrlWord)
  | replyWordReceived (link : LinkId) (word : ReplyWord)
  | replyWindowExpiry (link : LinkId)
  | nextAttempt (link : LinkId)
  | pollTimerExpiry (unit : UnitId)
  | pollSet (h : Hdr) (interval : Nat)
  | unitSet (h : Hdr) (unit : UnitRef) (atten : Option Nat) (threshold : Option Int) (eligible : Option (BitVec 32))
  | unitMuteOn (h : Hdr) (unit : UnitRef)
  | unitMuteOff (h : Hdr) (unit : UnitRef)
  | unitRelay (h : Hdr) (link : Nat) (pos : NumSel) (payload : List Word)
  | unitRead (h : Hdr) (sel : UnitSel)
  -- levels (spec/05)
  | combinerSample (feed : FeedId) (samples : List IQ)
  | mixerSample (unit : UnitId) (samples : List IQ)
  | levelSet (h : Hdr) (limit : Nat)
  | levelRead (h : Hdr) (sel : LevelSel)
  -- load and spreading (spec/06)
  | busyWindowEnd (unit : UnitId) (window : BusyWindow)
  | evaluationPeriodExpiry
  | loadSet (h : Hdr) (period shift : Option Nat)
  | loadRead (h : Hdr) (sel : LoadSel)
  | hotZoneRound
  | balanceTimerExpiry
  -- plans and holds (spec/07)
  | planWrite (h : Hdr) (bank : Nat) (mode : Option (Option PlanMode)) (homes : Option (List (UnitRef × Nat))) (marks : Option (List MarkEntry))
  | planRead (h : Hdr) (sel : NumSel)
  | planSelect (h : Hdr) (bank : Nat)
  | planSelectNone (h : Hdr)
  | zoneHold (h : Hdr) (zone : Nat)
  | zoneRelease (h : Hdr) (zone : Nat)
  -- migration (spec/08)
  | move (h : Hdr) (unit : UnitRef) (target : Nat) (force : Option Bool)
  | moveAbort (h : Hdr) (unit : UnitRef)
  | spreadSet (h : Hdr) (auto : Option (Option Bool)) (conc depth step balance : Option Nat)
  | queueRead (h : Hdr)
  | retryTimerExpiry
  | blendStepExpiry (unit : UnitId)
  -- faults (spec/09)
  | faultPolicy (h : Hdr) (kind : NumSel) (notify mute latch : Option Bool)
  | faultPolicyDefaults (h : Hdr) (kind : NumSel)
  | faultAck (h : Hdr) (name : FaultName)
  | faultClear (h : Hdr) (name : FaultName)
  | faultRead (h : Hdr) (sel : FaultSel)
  -- management port, resets and clock (spec/10)
  | characterReceived (c : RxChar)
  | breakDetected
  | badKindRequest (h : Hdr) (kind : Nat)
  | frameTransmitStart
  | frameTransmitEnd
  | holdInputChange (asserted : Bool)
  | status (h : Hdr)
  | ident (h : Hdr)
  | reset (h : Hdr) (warm : Bool)
  | warmReset
  | coldReset (strap1 strap0 : Bool)
  | startUpEnd
  | runClockTick
  | resetPinAsserted
  deriving DecidableEq, Repr

end Sys2Proof
end

