-- ==== Sys2Proof/Decode.lean ====
section
/-! DEFINITION. From request bodies to commands and back (spec/10 R190, R199 to R202, R206), and decodeTableWord.
The readers below are written in continuation style: a field reader takes what to do with its value. Where the
encoding table leaves a width or a place to reading, notes/assumptions/22.md and 23.md say what is taken. -/

namespace Sys2Proof

/-! ### Octets (R199: most significant octet first) -/

/-- One octet holding `n`. -/
def octets1 (n : Nat) : List Octet := [BitVec.ofNat 8 n]
/-- Two octets holding `n`. -/
def octets2 (n : Nat) : List Octet := [BitVec.ofNat 8 (n / 256), BitVec.ofNat 8 n]
/-- Four octets holding `n`. -/
def octets4 (n : Nat) : List Octet :=
  [BitVec.ofNat 8 (n / 16777216), BitVec.ofNat 8 (n / 65536), BitVec.ofNat 8 (n / 256), BitVec.ofNat 8 n]
/-- Two octets holding `x` in two's complement. -/
def octetsSigned (x : Int) : List Octet := octets2 (BitVec.ofInt 16 x).toNat

/-! ### Readers -/

/-- What a body's fields come to: a command under its header, a length other than the one the fields give, or a form
octet beyond its rule's forms, with which the length ends (R190); that command carries the fields before the octet. -/
inductive Body where
  | ok (make : Hdr → Instr)
  | badLength
  | badForm (make : Hdr → Instr)

/-- A reader of the rest of a body. -/
abbrev Reader := List Octet → Body

/-- The fields end here. -/
def readEnd (make : Hdr → Instr) : Reader
  | [] => .ok make
  | _ => .badLength

/-- A form octet beyond its rule's forms: the length ends with it (R190). -/
def readBadForm (make : Hdr → Instr) : Reader
  | [] => .badForm make
  | _ => .badLength

/-- A number of one octet. -/
def read1 (k : Nat → Reader) : Reader
  | b :: r => k b.toNat r
  | _ => .badLength

/-- An unsigned quantity of two octets. -/
def read2 (k : Nat → Reader) : Reader
  | b :: c :: r => k (b.toNat * 256 + c.toNat) r
  | _ => .badLength

/-- A signed quantity of two octets. -/
def readSigned (k : Int → Reader) : Reader :=
  read2 fun n => k (BitVec.ofNat 16 n).toInt

/-- A word of four octets. -/
def read4 (k : Word → Reader) : Reader
  | b :: c :: d :: e :: r => k (b ++ c ++ d ++ e) r
  | _ => .badLength

/-- `n` of one reader, in order. -/
def readTimes {α : Type} (p : (α → Reader) → Reader) : Nat → (List α → Reader) → Reader
  | 0, k => k []
  | n + 1, k => p fun a => readTimes p n fun l => k (a :: l)

/-- A list: its entry count, then the entries. -/
def readList {α : Type} (p : (α → Reader) → Reader) (k : List α → Reader) : Reader :=
  read1 fun n => readTimes p n k

/-- An optional field: 00h absent, 01h present and then the field. An octet beyond these is taken as a form octet beyond its
forms (notes/assumptions/51.md), with `bad` its command. -/
def readOpt {α : Type} (bad : Hdr → Instr) (p : (α → Reader) → Reader) (k : Option α → Reader) : Reader :=
  read1 fun b => if b = 0 then k none else if b = 1 then p fun a => k (some a) else readBadForm bad

/-- A choice octet: 00h for the first value listed; beyond the last, `none`. -/
def readChoice {α : Type} (values : List α) (k : Option α → Reader) : Reader :=
  read1 fun b => k values[b]?

/-- On or off: 00h on, 01h off. -/
def readOnOff (k : Option Bool → Reader) : Reader := readChoice [true, false] k

/-- A number, or FFh "all". -/
def readNumSel (k : NumSel → Reader) : Reader :=
  read1 fun n => k (if n = 255 then .all else .one n)

/-- A unit: link then position, or FEh then index. -/
def readUnit (k : UnitRef → Reader) : Reader :=
  read1 fun l => read1 fun p => k (if l = 254 then .index p else .lp l p)

/-- A label: character count, then the characters. -/
def readLabel (k : List Octet → Reader) : Reader :=
  readList (fun k => read1 fun n => k (BitVec.ofNat 8 n)) k

/-- An entry of a home list: its unit index is read as a unit field (notes/assumptions/50.md). -/
def readHome (k : UnitRef × Nat → Reader) : Reader := readUnit fun u => read1 fun z => k (u, z)

/-- An entry of a marks list. -/
def readMarks (k : MarkEntry → Reader) : Reader :=
  read1 fun z => read2 fun hi => read2 fun lo => read2 fun y => read2 fun d => readOnOff fun a => k ⟨z, hi, lo, y, d, a⟩

/-- All, or a kind and a source. -/
def readFaultName (bad : Hdr → Instr) (k : FaultName → Reader) : Reader :=
  read1 fun f => match f with
    | 0 => k .all
    | 1 => read1 fun c => read1 fun n => k (.one c n)
    | _ => readBadForm bad

/-- The source classes in the order R167 names them. -/
def sourceClasses : List SourceClass := [.link, .unit, .feed, .port, .operator]
/-- The operator states in the order R1 lists them. -/
def operatorStates : List OperatorState := [.undefined, .active, .suspended]
/-- The plan modes in the order R128 lists them. -/
def planModes : List PlanMode := [.fixed, .seed]

/-! ### The catalogue (R206) -/

/-- A command of a kind whose fields could not be read: it is refused BAD_LENGTH or BAD_VALUE by its header, and no check
that comes before looks at its fields. -/
def unread (code : Nat) (h : Hdr) : Instr :=
  match code with
  | 0x01 => .operatorSet h 0 none [] 0 0
  | 0x02 => .operatorRead h .all
  | 0x03 => .bandSet h 0 none
  | 0x04 => .bandRead h
  | 0x05 => .licenceSet h 0 0 0
  | 0x06 => .feedDefine h 0 0 0 0 0 0 0
  | 0x07 => .feedEnableOff h 0
  | 0x08 => .feedMuteOff h 0
  | 0x09 => .feedRelease h 0
  | 0x0A => .feedRead h .all
  | 0x0B => .zoneDefineOff h 0
  | 0x0C => .zoneRead h .all
  | 0x0D => .routeAdd h 0 0 0 none
  | 0x0E => .routeLevel h 0 0 0 none
  | 0x0F => .routeRemove h 0 0
  | 0x10 => .routeRead h .all
  | 0x11 => .linkEnable h 0
  | 0x12 => .linkDisable h 0
  | 0x13 => .linkRestart h 0
  | 0x14 => .linkLoopbackOff h 0
  | 0x15 => .linkRead h .all
  | 0x16 => .pollSet h 0
  | 0x17 => .unitSet h (.index 0) none none none
  | 0x18 => .unitMuteOff h (.index 0)
  | 0x19 => .unitRelay h 0 .all []
  | 0x1A => .unitRead h .all
  | 0x1B => .levelSet h 0
  | 0x1C => .levelRead h .feeds
  | 0x1D => .loadSet h none none
  | 0x1E => .loadRead h .spread
  | 0x1F => .planWrite h 0 none none none
  | 0x20 => .planRead h .all
  | 0x21 => .planSelectNone h
  | 0x22 => .zoneHold h 0
  | 0x23 => .zoneRelease h 0
  | 0x24 => .move h (.index 0) 0 none
  | 0x25 => .moveAbort h (.index 0)
  | 0x26 => .spreadSet h none none none none none
  | 0x27 => .queueRead h
  | 0x28 => .faultPolicyDefaults h .all
  | 0x29 => .faultAck h .all
  | 0x2A => .faultClear h .all
  | 0x2B => .faultRead h .all
  | 0x2C => .status h
  | 0x2D => .ident h
  | 0x2E => .reset h false
  | c => .badKindRequest h c

/-- An on-or-off octet that decides the row, then the fields both rows carry. -/
def readSplit {α : Type} (p : (α → Reader) → Reader) (on off : Hdr → α → Instr) : Reader :=
  read1 fun b => p fun a => readEnd fun h =>
    if b = 0 then on h a else off (if b = 1 then h else { h with formOk := false }) a

/-- Fields both rows carry, then an on-or-off octet that decides the row. -/
def readThenSplit {α : Type} (p : (α → Reader) → Reader) (on off : Hdr → α → Instr) : Reader :=
  p fun a => read1 fun b => readEnd fun h =>
    if b = 0 then on h a else off (if b = 1 then h else { h with formOk := false }) a

/-- The fields of each request kind, in the order its rule lists them. A form octet beyond its rule's forms keeps what R190
judges before it: the feed of a route, whose owner is asked, and the bank of a PLAN_WRITE. The payload of UNIT_RELAY is a list
(notes/assumptions/43.md). -/
def readFields (code : Nat) : Reader :=
  let bad : Hdr → Instr := unread code
  match code with
  | 0x01 => read1 fun op => readChoice operatorStates fun st => readLabel fun l => read2 fun nc => read2 fun gl =>
      readEnd fun h => .operatorSet h op st l nc gl
  | 0x02 => readNumSel fun n => readEnd fun h => .operatorRead h n
  | 0x03 => read1 fun b => read1 fun f => match f with
      | 0 => readEnd fun h => .bandSet h b none
      | 1 => read2 fun st => readSigned fun o => readEnd fun h => .bandSet h b (some ⟨st, o⟩)
      | _ => readBadForm bad
  | 0x04 => readEnd fun h => .bandRead h
  | 0x05 => read1 fun op => read1 fun b => read4 fun w => readEnd fun h => .licenceSet h op b w
  | 0x06 => read1 fun f => read1 fun op => read1 fun b => read1 fun k => read1 fun n => read1 fun p => read1 fun l =>
      readEnd fun h => .feedDefine h f op b k n p l
  | 0x07 => readSplit read1 .feedEnableOn .feedEnableOff
  | 0x08 => readThenSplit read1 .feedMuteOn .feedMuteOff
  | 0x09 => read1 fun f => readEnd fun h => .feedRelease h f
  | 0x0A => readNumSel fun n => readEnd fun h => .feedRead h n
  | 0x0B => read1 fun f => match f with
      | 0 => read1 fun z => readLabel fun l => readEnd fun h => .zoneDefineOn h z l
      | 1 => read1 fun z => readEnd fun h => .zoneDefineOff h z
      | _ => readBadForm bad
  | 0x0C => readNumSel fun n => readEnd fun h => .zoneRead h n
  | 0x0D => read1 fun f => read1 fun z => readSigned fun l => readOpt (.routeAdd · f z l none) readOnOff fun u =>
      readEnd fun h => .routeAdd h f z l u
  | 0x0E => read1 fun f => read1 fun z => readSigned fun l => readOpt (.routeLevel · f z l none) readOnOff fun u =>
      readEnd fun h => .routeLevel h f z l u
  | 0x0F => read1 fun f => read1 fun z => readEnd fun h => .routeRemove h f z
  | 0x10 => read1 fun f => match f with
      | 0 => read1 fun a => read1 fun z => readEnd fun h => .routeRead h (.key a z)
      | 1 => read1 fun a => readEnd fun h => .routeRead h (.feed a)
      | 2 => read1 fun z => readEnd fun h => .routeRead h (.zone z)
      | 3 => read1 fun i => readEnd fun h => .routeRead h (.set i)
      | 4 => readEnd fun h => .routeRead h .all
      | _ => readBadForm bad
  | 0x11 => read1 fun l => readEnd fun h => .linkEnable h l
  | 0x12 => read1 fun l => readEnd fun h => .linkDisable h l
  | 0x13 => read1 fun l => readEnd fun h => .linkRestart h l
  | 0x14 => readSplit read1 .linkLoopbackOn .linkLoopbackOff
  | 0x15 => readNumSel fun n => readEnd fun h => .linkRead h n
  | 0x16 => read2 fun n => readEnd fun h => .pollSet h n
  | 0x17 => readUnit fun u => readOpt bad read2 fun a => readOpt bad readSigned fun t => readOpt bad read4 fun e =>
      readEnd fun h => .unitSet h u a t e
  | 0x18 => readThenSplit readUnit .unitMuteOn .unitMuteOff
  | 0x19 => read1 fun l => readNumSel fun p => readList read4 fun w => readEnd fun h => .unitRelay h l p w
  | 0x1A => read1 fun f => match f with
      | 0 => readUnit fun u => readEnd fun h => .unitRead h (.unit u)
      | 1 => read1 fun l => readEnd fun h => .unitRead h (.link l)
      | 2 => readEnd fun h => .unitRead h .all
      | _ => readBadForm bad
  | 0x1B => read2 fun n => readEnd fun h => .levelSet h n
  | 0x1C => read1 fun f => match f with
      | 0 => read1 fun a => readEnd fun h => .levelRead h (.feed a)
      | 1 => readUnit fun u => readEnd fun h => .levelRead h (.unit u)
      | 2 => readEnd fun h => .levelRead h .feeds
      | 3 => readEnd fun h => .levelRead h .units
      | _ => readBadForm bad
  | 0x1D => readOpt bad read2 fun p => readOpt bad read2 fun k => readEnd fun h => .loadSet h p k
  | 0x1E => read1 fun f => match f with
      | 0 => readUnit fun u => readEnd fun h => .loadRead h (.unit u)
      | 1 => readEnd fun h => .loadRead h .units
      | 2 => read1 fun z => readEnd fun h => .loadRead h (.zone z)
      | 3 => readEnd fun h => .loadRead h .zones
      | 4 => readEnd fun h => .loadRead h .spread
      | _ => readBadForm bad
  | 0x1F => read1 fun b => readOpt (.planWrite · b none none none) (readChoice planModes) fun m =>
      readOpt (.planWrite · b none none none) (readList readHome) fun hs =>
        readOpt (.planWrite · b none none none) (readList readMarks) fun ms => readEnd fun h => .planWrite h b m hs ms
  | 0x20 => readNumSel fun n => readEnd fun h => .planRead h n
  | 0x21 => read1 fun n => readEnd fun h => if n = 254 then .planSelectNone h else .planSelect h n
  | 0x22 => read1 fun z => readEnd fun h => .zoneHold h z
  | 0x23 => read1 fun z => readEnd fun h => .zoneRelease h z
  | 0x24 => readUnit fun u => read1 fun z => readOnOff fun f => readEnd fun h => .move h u z f
  | 0x25 => readUnit fun u => readEnd fun h => .moveAbort h u
  | 0x26 => readOpt bad readOnOff fun a => readOpt bad read2 fun c => readOpt bad read2 fun d => readOpt bad read2 fun t =>
      readOpt bad read2 fun b => readEnd fun h => .spreadSet h a c d t b
  | 0x27 => readEnd fun h => .queueRead h
  | 0x28 => readNumSel fun k => read1 fun f => match f with
      | 0 => readOnOff fun n => readOnOff fun m => readOnOff fun l => readEnd fun h => .faultPolicy h k n m l
      | 1 => readEnd fun h => .faultPolicyDefaults h k
      | _ => readBadForm bad
  | 0x29 => readFaultName bad fun n => readEnd fun h => .faultAck h n
  | 0x2A => readFaultName bad fun n => readEnd fun h => .faultClear h n
  | 0x2B => read1 fun f => match f with
      | 0 => readEnd fun h => .faultRead h .all
      | 1 => read1 fun k => readEnd fun h => .faultRead h (.kind k)
      | 2 => readChoice sourceClasses fun c => read1 fun n => readEnd fun h => .faultRead h (.source c n)
      | 3 => read1 fun k => read1 fun n => readEnd fun h => .faultRead h (.kindSource k n)
      | 4 => readEnd fun h => .faultRead h .policy
      | _ => readBadForm bad
  | 0x2C => readEnd fun h => .status h
  | 0x2D => readEnd fun h => .ident h
  | 0x2E => read1 fun n => readEnd fun h => .reset h (n == 0)
  | _ => fun _ => .badLength

/-- The command that a checked frame's body is (R190): total, an unknown kind being BAD_KIND_REQUEST. -/
def decodeBody : List Octet → Instr
  | kind :: t1 :: t0 :: issuer :: rest =>
    let h : Hdr := { tag := t1 ++ t0, issuer := issuer.toNat }
    if 1 ≤ kind.toNat ∧ kind.toNat ≤ 0x2E then
      match readFields kind.toNat rest with
      | .ok make => make h
      | .badLength => unread kind.toNat { h with lengthOk := false }
      | .badForm make => make { h with formOk := false }
    else .badKindRequest h kind.toNat
  | _ => .badKindRequest { tag := 0, issuer := 0 } 0

/-! ### The encoder -/

/-- The octet of a choice: its place in the list, or FFh for a value beyond it. -/
def writeChoice {α : Type} [DecidableEq α] (values : List α) : Option α → List Octet
  | some a => octets1 (values.idxOf a)
  | none => octets1 255

def writeOnOff : Option Bool → List Octet := writeChoice [true, false]

def writeOpt {α : Type} (w : α → List Octet) : Option α → List Octet
  | none => octets1 0
  | some a => octets1 1 ++ w a

def writeList {α : Type} (w : α → List Octet) (l : List α) : List Octet :=
  octets1 l.length ++ l.flatMap w

def writeNumSel : NumSel → List Octet
  | .one n => octets1 n
  | .all => octets1 255

def writeUnit : UnitRef → List Octet
  | .lp l p => octets1 l ++ octets1 p
  | .index n => octets1 254 ++ octets1 n

def writeFaultName : FaultName → List Octet
  | .all => octets1 0
  | .one k n => octets1 1 ++ octets1 k ++ octets1 n

def writeMarks (m : MarkEntry) : List Octet :=
  octets1 m.zone ++ octets2 m.high ++ octets2 m.low ++ octets2 m.hyst ++ octets2 m.dwell ++ writeOnOff m.auto

/-- The header of a request body (R201). -/
def writeHdr (code : Nat) (h : Hdr) : List Octet :=
  octets1 code ++ octets2 h.tag.toNat ++ octets1 h.issuer

/-- The body of the frame that carries a request; `none` for an event, which no frame carries. -/
def encodeBody : Instr → Option (List Octet)
  | .operatorSet h op st l nc gl =>
      some (writeHdr 0x01 h ++ octets1 op ++ writeChoice operatorStates st ++ writeList (fun c => [c]) l ++ octets2 nc ++ octets2 gl)
  | .operatorRead h n => some (writeHdr 0x02 h ++ writeNumSel n)
  | .bandSet h b none => some (writeHdr 0x03 h ++ octets1 b ++ octets1 0)
  | .bandSet h b (some w) => some (writeHdr 0x03 h ++ octets1 b ++ octets1 1 ++ octets2 w.start ++ octetsSigned w.offset)
  | .bandRead h => some (writeHdr 0x04 h)
  | .licenceSet h op b w => some (writeHdr 0x05 h ++ octets1 op ++ octets1 b ++ octets4 w.toNat)
  | .feedDefine h f op b k n p l =>
      some (writeHdr 0x06 h ++ octets1 f ++ octets1 op ++ octets1 b ++ octets1 k ++ octets1 n ++ octets1 p ++ octets1 l)
  | .feedEnableOn h f => some (writeHdr 0x07 h ++ octets1 0 ++ octets1 f)
  | .feedEnableOff h f => some (writeHdr 0x07 h ++ octets1 1 ++ octets1 f)
  | .feedMuteOn h f => some (writeHdr 0x08 h ++ octets1 f ++ octets1 0)
  | .feedMuteOff h f => some (writeHdr 0x08 h ++ octets1 f ++ octets1 1)
  | .feedRelease h f => some (writeHdr 0x09 h ++ octets1 f)
  | .feedRead h n => some (writeHdr 0x0A h ++ writeNumSel n)
  | .zoneDefineOn h z l => some (writeHdr 0x0B h ++ octets1 0 ++ octets1 z ++ writeList (fun c => [c]) l)
  | .zoneDefineOff h z => some (writeHdr 0x0B h ++ octets1 1 ++ octets1 z)
  | .zoneRead h n => some (writeHdr 0x0C h ++ writeNumSel n)
  | .routeAdd h f z l u => some (writeHdr 0x0D h ++ octets1 f ++ octets1 z ++ octetsSigned l ++ writeOpt writeOnOff u)
  | .routeLevel h f z l u => some (writeHdr 0x0E h ++ octets1 f ++ octets1 z ++ octetsSigned l ++ writeOpt writeOnOff u)
  | .routeRemove h f z => some (writeHdr 0x0F h ++ octets1 f ++ octets1 z)
  | .routeRead h (.key f z) => some (writeHdr 0x10 h ++ octets1 0 ++ octets1 f ++ octets1 z)
  | .routeRead h (.feed f) => some (writeHdr 0x10 h ++ octets1 1 ++ octets1 f)
  | .routeRead h (.zone z) => some (writeHdr 0x10 h ++ octets1 2 ++ octets1 z)
  | .routeRead h (.set i) => some (writeHdr 0x10 h ++ octets1 3 ++ octets1 i)
  | .routeRead h .all => some (writeHdr 0x10 h ++ octets1 4)
  | .linkEnable h l => some (writeHdr 0x11 h ++ octets1 l)
  | .linkDisable h l => some (writeHdr 0x12 h ++ octets1 l)
  | .linkRestart h l => some (writeHdr 0x13 h ++ octets1 l)
  | .linkLoopbackOn h l => some (writeHdr 0x14 h ++ octets1 0 ++ octets1 l)
  | .linkLoopbackOff h l => some (writeHdr 0x14 h ++ octets1 1 ++ octets1 l)
  | .linkRead h n => some (writeHdr 0x15 h ++ writeNumSel n)
  | .pollSet h n => some (writeHdr 0x16 h ++ octets2 n)
  | .unitSet h u a t e =>
      some (writeHdr 0x17 h ++ writeUnit u ++ writeOpt octets2 a ++ writeOpt octetsSigned t ++ writeOpt (fun (w : BitVec 32) => octets4 w.toNat) e)
  | .unitMuteOn h u => some (writeHdr 0x18 h ++ writeUnit u ++ octets1 0)
  | .unitMuteOff h u => some (writeHdr 0x18 h ++ writeUnit u ++ octets1 1)
  | .unitRelay h l p w => some (writeHdr 0x19 h ++ octets1 l ++ writeNumSel p ++ writeList (fun (x : Word) => octets4 x.toNat) w)
  | .unitRead h (.unit u) => some (writeHdr 0x1A h ++ octets1 0 ++ writeUnit u)
  | .unitRead h (.link l) => some (writeHdr 0x1A h ++ octets1 1 ++ octets1 l)
  | .unitRead h .all => some (writeHdr 0x1A h ++ octets1 2)
  | .levelSet h n => some (writeHdr 0x1B h ++ octets2 n)
  | .levelRead h (.feed f) => some (writeHdr 0x1C h ++ octets1 0 ++ octets1 f)
  | .levelRead h (.unit u) => some (writeHdr 0x1C h ++ octets1 1 ++ writeUnit u)
  | .levelRead h .feeds => some (writeHdr 0x1C h ++ octets1 2)
  | .levelRead h .units => some (writeHdr 0x1C h ++ octets1 3)
  | .loadSet h p k => some (writeHdr 0x1D h ++ writeOpt octets2 p ++ writeOpt octets2 k)
  | .loadRead h (.unit u) => some (writeHdr 0x1E h ++ octets1 0 ++ writeUnit u)
  | .loadRead h .units => some (writeHdr 0x1E h ++ octets1 1)
  | .loadRead h (.zone z) => some (writeHdr 0x1E h ++ octets1 2 ++ octets1 z)
  | .loadRead h .zones => some (writeHdr 0x1E h ++ octets1 3)
  | .loadRead h .spread => some (writeHdr 0x1E h ++ octets1 4)
  | .planWrite h b m hs ms =>
      some (writeHdr 0x1F h ++ octets1 b ++ writeOpt (writeChoice planModes) m
        ++ writeOpt (writeList fun e => writeUnit e.1 ++ octets1 e.2) hs ++ writeOpt (writeList writeMarks) ms)
  | .planRead h n => some (writeHdr 0x20 h ++ writeNumSel n)
  | .planSelect h n => some (writeHdr 0x21 h ++ octets1 n)
  | .planSelectNone h => some (writeHdr 0x21 h ++ octets1 254)
  | .zoneHold h z => some (writeHdr 0x22 h ++ octets1 z)
  | .zoneRelease h z => some (writeHdr 0x23 h ++ octets1 z)
  | .move h u z f => some (writeHdr 0x24 h ++ writeUnit u ++ octets1 z ++ writeOnOff f)
  | .moveAbort h u => some (writeHdr 0x25 h ++ writeUnit u)
  | .spreadSet h a c d t b =>
      some (writeHdr 0x26 h ++ writeOpt writeOnOff a ++ writeOpt octets2 c ++ writeOpt octets2 d ++ writeOpt octets2 t ++ writeOpt octets2 b)
  | .queueRead h => some (writeHdr 0x27 h)
  | .faultPolicy h k n m l => some (writeHdr 0x28 h ++ writeNumSel k ++ octets1 0 ++ writeOnOff n ++ writeOnOff m ++ writeOnOff l)
  | .faultPolicyDefaults h k => some (writeHdr 0x28 h ++ writeNumSel k ++ octets1 1)
  | .faultAck h n => some (writeHdr 0x29 h ++ writeFaultName n)
  | .faultClear h n => some (writeHdr 0x2A h ++ writeFaultName n)
  | .faultRead h .all => some (writeHdr 0x2B h ++ octets1 0)
  | .faultRead h (.kind k) => some (writeHdr 0x2B h ++ octets1 1 ++ octets1 k)
  | .faultRead h (.source c n) => some (writeHdr 0x2B h ++ octets1 2 ++ writeChoice sourceClasses c ++ octets1 n)
  | .faultRead h (.kindSource k n) => some (writeHdr 0x2B h ++ octets1 3 ++ octets1 k ++ octets1 n)
  | .faultRead h .policy => some (writeHdr 0x2B h ++ octets1 4)
  | .badKindRequest h k => some (writeHdr k h)
  | .status h => some (writeHdr 0x2C h)
  | .ident h => some (writeHdr 0x2D h)
  | .reset h w => some (writeHdr 0x2E h ++ octets1 (if w then 0 else 1))
  | .lockInputChange .. | .donorPortLocked .. | .donorPortUnlocked .. | .preambleEnd .. | .markerReceived ..
  | .loopbackTestWord .. | .alignmentTimerExpiry .. | .noiseWindowExpiry .. | .numberWordReturn .. | .numberTimeout ..
  | .transactionStart .. | .requestWordSent .. | .echoReceived .. | .replyWordReceived .. | .replyWindowExpiry ..
  | .nextAttempt .. | .pollTimerExpiry .. | .combinerSample .. | .mixerSample .. | .busyWindowEnd ..
  | .evaluationPeriodExpiry | .hotZoneRound | .balanceTimerExpiry | .retryTimerExpiry | .blendStepExpiry ..
  | .characterReceived .. | .breakDetected | .frameTransmitStart | .frameTransmitEnd | .holdInputChange ..
  | .warmReset | .coldReset .. | .startUpEnd | .runClockTick | .resetPinAsserted => none

/-- The command that a word spells by the table's bits: spec/opcode_table.json gives no row any bits, so none. -/
def decodeTableWord (_nbits _w : Nat) : Option Instr := none

end Sys2Proof
end

