-- ==== Sys2Proof/Config.lean ====
section
/-! DEFINITION. What the part fixes (spec/10 R205 and the capacities), and the free values: constants without a body,
for what the spec leaves unstated. -/

namespace Sys2Proof.Config

/-- The 32-bit image of a control word, of which the spec gives no bit layout (notes/assumptions/11.md). Free value. -/
opaque ctrlWordImage : CtrlWord → Word

/-- The 32-bit image of a reply data word returned to the host by a relay (notes/assumptions/11.md). Free value. -/
opaque dataWordImage : DataWord → Word

/-- Alarms of a STATUS reply whose data are not one word of alarms and temperature (notes/assumptions/12.md). Free value. -/
opaque statusAlarms : List DataWord → Alarms

/-- Temperature of such a reply (notes/assumptions/12.md). Free value. -/
opaque statusTemp : List DataWord → BitVec 8

/-- The detail word of an INACTIVE report for which the spec states none, by kind code and source number
(notes/assumptions/13.md). Free value. -/
opaque unstatedDetail : Nat → Nat → Word

/-- Part code (spec/10 R205). -/
def partCode : Nat := 0x12D8
/-- Revision number (spec/10 R205). -/
def revision : Nat := 1
/-- Entries of the fault log (spec/09 R171). -/
def logCapacity : Nat := 32
/-- Entries of the migration queue (spec/08 R147). -/
def queueCapacity : Nat := 48
/-- Live members of a zone (spec/07 R138). -/
def zoneCapacity : Nat := 16
/-- Notices of the notice queue (spec/10 R193). -/
def noticeCapacity : Nat := 16
/-- Frames of the input buffer (spec/10 R189). -/
def inputCapacity : Nat := 4
/-- Replies of the reply list and relay replies owed together (spec/10 R190). -/
def replyCapacity : Nat := 64
/-- Entries of a link's relay queue (spec/04 R87). -/
def relayCapacity : Nat := 4
/-- Octets of fields in one reply segment (spec/10 R191). -/
def segmentOctets : Nat := 1015
/-- Bound on the rounds of follow-up work of one change (notes/assumptions/15.md says why 34 suffice). -/
def roundBound : Nat := 40

end Sys2Proof.Config
end

