-- ==== Sys2Proof/Machine/State.lean ====
section
/-! DEFINITION. The state of the part: everything spec/ gives it, block by block, as plain data, and State.reset. -/

namespace Sys2Proof.Machine

/-- Why the machine stops: never. A request that cannot be carried out is answered by a result code, and a condition
in operation is reported to the Fault Unit (spec/00 section 0.6.7), so there is no constructor. -/
inductive Fault
  deriving DecidableEq, Repr

/-- Why a command has no meaning. -/
inductive Refusal where
  /-- Raised by `exec` for a command that has no meaning yet; no arm raises it. Safe. -/
  | notModelled (mnemonic : String)
  deriving DecidableEq, Repr

/-! ### Tenancy Unit (spec/01) -/

/-- An operator record (R1). -/
structure OperatorRec where
  state : OperatorState := .undefined
  label : List Octet := []
  /-- Noise ceiling NC in tenths of dB. -/
  nc : Nat := 30
  /-- Group attenuation limit GL in half-dB codes. -/
  gl : Nat := 20
  /-- The licence set of each band slot: block k is bit k. -/
  licence : Tbl (BitVec 32) 8 := Vector.replicate 8 0
  deriving DecidableEq, Repr

/-- State of a feed (R10). -/
inductive FeedState | free | defined | enabled
  deriving DecidableEq, Repr

/-- The mute reasons of a feed, in the order R10 lists them. -/
structure FeedMutes where
  operatorSuspended : Bool := false
  licenceRevoked : Bool := false
  donorDown : Bool := false
  faultAction : Bool := false
  faultLatch : Bool := false
  issuerMute : Bool := false
  deriving DecidableEq, Repr

/-- A feed record (R10). -/
structure FeedRec where
  state : FeedState := .free
  operator : Option OpId := none
  slot : SlotId := 0
  firstBlock : Nat := 0
  blockCount : Nat := 0
  port : PortId := 0
  lane : LaneId := 0
  mutes : FeedMutes := {}
  deriving DecidableEq, Repr

/-- A donor port monitor with its lock input pin (R17). -/
structure DonorMonitor where
  locked : Bool := false
  lockInput : Bool := false
  /-- Time left of the qualification: 100 ms of high level in UNLOCKED, 10 ms of low level in LOCKED. -/
  qual : Timer := none
  deriving DecidableEq, Repr

/-- The Tenancy Unit. The three views are TU's condition views (spec/09 R183, notes/assumptions/3.md). -/
structure Tenancy where
  ops : Tbl OperatorRec 8 := Vector.replicate 8 {}
  bands : Tbl (Option Window) 8 := Vector.replicate 8 none
  feeds : Tbl FeedRec 32 := Vector.replicate 32 {}
  monitors : Tbl DonorMonitor 8 := Vector.replicate 8 {}
  licenceView : Tbl Bool 32 := Vector.replicate 32 false
  donorView : Tbl Bool 8 := Vector.replicate 8 false
  suspendView : Tbl Bool 8 := Vector.replicate 8 false
  deriving DecidableEq, Repr

/-! ### Zones and the route table (spec/02) -/

/-- A zone record (R21). -/
structure ZoneRec where
  defined : Bool := false
  label : List Octet := []
  deriving DecidableEq, Repr

/-- A route record (R26). -/
structure Route where
  feed : FeedId
  zone : ZoneId
  /-- Level L in tenths of dBm. -/
  level : Int
  uplink : Bool
  deriving DecidableEq, Repr

/-- A set of the route table: two ways, each one route or free (R26). -/
structure RouteSet where
  way0 : Option Route := none
  way1 : Option Route := none
  deriving DecidableEq, Repr

/-- Zone table and route table. -/
structure RouteUnit where
  zones : Tbl ZoneRec 24 := Vector.replicate 24 {}
  sets : Tbl RouteSet 64 := Vector.replicate 64 {}
  deriving DecidableEq, Repr

/-! ### Link Controllers (spec/03) -/

/-- State of a link (R39). -/
inductive LinkState | off | preamble | aligning | numbering | survey | running | loopback
  deriving DecidableEq, Repr

/-- The Link Controller's condition view (R39). -/
structure LinkView where
  noAlign : Bool := false
  noisy : Bool := false
  overlength : Bool := false
  empty : Bool := false
  deriving DecidableEq, Repr

/-- A link record (R39), with the numbering wait of R47. `slot` is the control word in the control slot of
the frame now sent, none for an idle word (R37, notes/assumptions/48.md). -/
structure LinkRec where
  state : LinkState := .off
  loopback : Bool := false
  looped : Bool := false
  generation : Nat := 0
  chain : Option Nat := none
  preambleFrames : Nat := 0
  attempt : Nat := 0
  goodRun : Nat := 0
  badRun : Nat := 0
  zeroRun : Nat := 0
  alignTimer : Timer := none
  noise : Nat := 0
  lastWindow : Nat := 0
  noiseTimer : Timer := none
  view : LinkView := {}
  testCounter : Nat := 0
  loopErrors : Nat := 0
  numberWait : Timer := none
  slot : Option CtrlWord := none
  deriving DecidableEq, Repr

/-! ### Unit Manager (spec/04) -/

/-- State of a unit (R62, R63). -/
inductive UnitState | absent | configuring | serving | failed
  deriving DecidableEq, Repr

/-- A unit's identity (R62, R72). -/
structure Identity where
  typeCode : Nat
  serial : Word
  /-- Rated composite power M in tenths of dBm. -/
  power : Nat
  /-- The range list: low and high edge in MHz. -/
  ranges : List (Nat × Nat)
  deriving DecidableEq, Repr

/-- The mute reasons of a unit, in the order R62 lists them. -/
structure UnitMutes where
  faultAction : Bool := false
  faultLatch : Bool := false
  linkAction : Bool := false
  issuerMute : Bool := false
  deriving DecidableEq, Repr

/-- The Unit Manager's condition view of a unit (R62). -/
structure UnitView where
  silent : Bool := false
  paHot : Bool := false
  vswr : Bool := false
  supply : Bool := false
  bandUnsupported : Bool := false
  deriving DecidableEq, Repr

/-- A unit record (R62). `pollDueAt` is the run clock at which the poll became due (R69, notes/assumptions/18.md). -/
structure UnitRec where
  state : UnitState := .absent
  identity : Option Identity := none
  lastSerial : Word := 0
  mask : BitVec 8 := 0
  wanted : BitVec 8 := 0
  configured : Option (BitVec 8) := none
  configDue : Bool := false
  configFailed : Bool := false
  atten : Nat := 0
  threshold : Int := -600
  eligible : BitVec 24 := 0
  mutes : UnitMutes := {}
  missCount : Nat := 0
  pollTimer : Timer := none
  pollDue : Bool := false
  pollDueAt : Word := 0
  temperature : Option Int := none
  view : UnitView := {}
  deriving DecidableEq, Repr

/-- Who asked for a transaction (R64, R68). A CONFIG notes the set sent (R75), a relay the tag of its request (R87). -/
inductive Requester | survey | config (sent : BitVec 8) | poll | relay (tag : BitVec 16)
  deriving DecidableEq, Repr

/-- A control transaction outstanding on a link (R64 to R68). -/
structure Txn where
  requester : Requester
  kind : TxnKind
  /-- The position addressed; `none` is "all". -/
  target : Option PosId
  data : List ReqData
  attempt : Nat := 1
  /-- Words of the attempt sent, the header among them. -/
  sent : Nat := 0
  /-- Words of the attempt whose echo has matched. -/
  echoed : Nat := 0
  /-- The reply header taken: BUSY or not, and the count of data words. -/
  header : Option (Bool × Nat) := none
  replyData : List DataWord := []
  /-- Reply window of the attempt. -/
  window : Timer := none
  /-- The 1 ms spacing before the next attempt: the attempt has ended. -/
  spacing : Timer := none
  deriving DecidableEq, Repr

/-- A relay queue entry (R87). -/
structure RelayEntry where
  tag : BitVec 16
  target : Option PosId
  payload : List Word
  deriving DecidableEq, Repr

/-- The transaction arbiter of a link, with its relay queue and the positions still to survey (R69, R70, R87). -/
structure Arbiter where
  txn : Option Txn := none
  relays : List RelayEntry := []
  /-- The alternation marker: the kind that started last is poll. -/
  lastPoll : Bool := false
  toSurvey : List PosId := []
  deriving DecidableEq, Repr

/-- The Unit Manager. -/
structure UnitMgr where
  units : Tbl UnitRec 48 := Vector.replicate 48 {}
  arbiters : Tbl Arbiter 12 := Vector.replicate 12 {}
  pollInterval : Nat := 500
  deriving DecidableEq, Repr

/-! ### Level Engine (spec/05) -/

/-- An entry of a contributing set (R92): the unit, the zone through which it contributes, its code. -/
structure CombEntry where
  unit : UnitId
  zone : ZoneId
  code : Nat
  deriving DecidableEq, Repr

/-- A combiner record (R92). -/
structure CombinerRec where
  set : List CombEntry := []
  sum : Nat := 0
  nr : Nat := 0
  required : Nat := 0
  g : Nat := 0
  saturations : Nat := 0
  noiseCeiling : Bool := false
  overload : Bool := false
  deriving DecidableEq, Repr

/-- A term of a mixer (R98): `level` is L', `power` is u in µW. -/
structure Term where
  feed : FeedId
  zone : ZoneId
  level : Int
  power : Nat
  code : Nat
  omitted : Bool
  deriving DecidableEq, Repr

/-- A mixer record (R98). -/
structure MixerRec where
  terms : List Term := []
  composite : Nat := 0
  smax : Nat := 0
  backoff : Nat := 0
  clips : Nat := 0
  powerLimit : Bool := false
  clip : Bool := false
  deriving DecidableEq, Repr

/-- The Level Engine. -/
structure LevelEngine where
  combiners : Tbl CombinerRec 32 := Vector.replicate 32 {}
  mixers : Tbl MixerRec 48 := Vector.replicate 48 {}
  limit : Nat := 100
  deriving DecidableEq, Repr

/-! ### Load Monitor and Spread Engine (spec/06) -/

/-- A measurement record (R110), with whether the window in progress is measured, the threshold it began with, and the
configured band sets that were in force earlier in it, oldest first (R112). -/
structure MeasureRec where
  measured : Nat := 0
  busy : Nat := 0
  occupancy : Option Nat := none
  estimate : Nat := 0
  measuring : Bool := false
  windowThreshold : Int := -600
  earlierSets : List (BitVec 8) := []
  deriving DecidableEq, Repr

/-- A zone's temperature (R115). -/
inductive Temperature | normal | hot | cool
  deriving DecidableEq, Repr

/-- A zone record of the Load Monitor (R115). -/
structure LoadRec where
  load : Nat := 0
  temp : Temperature := .normal
  hotDwell : Nat := 0
  coolDwell : Nat := 0
  deriving DecidableEq, Repr

/-- The Load Monitor: P is `period`, k is `shift`. -/
structure LoadMonitor where
  measures : Tbl MeasureRec 48 := Vector.replicate 48 {}
  zones : Tbl LoadRec 24 := Vector.replicate 24 {}
  timer : Timer := none
  period : Nat := 1000
  shift : Nat := 3
  deriving DecidableEq, Repr

/-- The Level Engine's answer to an admission query (R105). -/
inductive Admission | pass | noise (f : FeedId) | power
  deriving DecidableEq, Repr

/-- The outcome of one HOT zone of a round (R121, R127). -/
inductive RoundOutcome
  | moved (u : UnitId) (target : ZoneId) | held | autoOff | originBusy | single
  | noTarget (tried : Nat) (last : Option Admission)
  deriving DecidableEq, Repr

/-- The round record (R127). -/
structure RoundRec where
  clock : Word
  /-- The trigger: HOT, or else TIMER. -/
  hot : Bool
  outcomes : List (ZoneId × RoundOutcome)
  deriving DecidableEq, Repr

/-- The Spread Engine. `named` holds the zones the Load Monitor named as become HOT that no round has taken yet (R120). -/
structure SpreadEngine where
  working : Bool := false
  timer : Timer := none
  round : Option RoundRec := none
  named : List ZoneId := []
  deriving DecidableEq, Repr

/-! ### Plan Store (spec/07) -/

/-- The marks of a zone (R128). -/
structure Marks where
  high : Nat := 8000
  low : Nat := 1000
  hyst : Nat := 500
  dwell : Nat := 5
  auto : Bool := false
  deriving DecidableEq, Repr

/-- A plan bank (R128). -/
structure Bank where
  mode : PlanMode := .seed
  homes : Tbl Home 48 := Vector.replicate 48 none
  marks : Tbl Marks 24 := Vector.replicate 24 {}
  deriving DecidableEq, Repr

/-- The Plan Store. -/
structure PlanStore where
  banks : Tbl Bank 4 := Vector.replicate 4 {}
  active : BankId := 0
  pending : Option BankId := none
  holds : Tbl (Option Issuer) 24 := Vector.replicate 24 none
  deriving DecidableEq, Repr

/-! ### Migration Engine (spec/08) -/

/-- Source of a move (R146). -/
inductive MoveSource | auto | plan | venue
  deriving DecidableEq, Repr

/-- A blend record (R146). -/
structure Blend where
  target : Home
  p : Nat
  depth : Nat
  step : Nat
  reverse : Bool
  source : MoveSource
  timer : Nat
  deriving DecidableEq, Repr

/-- A migration queue entry (R147). -/
structure QueueEntry where
  unit : UnitId
  origin : Home
  target : Home
  source : MoveSource
  force : Bool
  deferrals : Nat
  time : Word
  deriving DecidableEq, Repr

/-- The spread parameters (R164). -/
structure SpreadParams where
  auto : Bool := false
  conc : Nat := 4
  depth : Nat := 12
  step : Nat := 250
  balance : Nat := 10
  deriving DecidableEq, Repr

/-- The Migration Engine. -/
structure MigrationEngine where
  homes : Tbl Home 48 := Vector.replicate 48 none
  blends : Tbl (Option Blend) 48 := Vector.replicate 48 none
  queue : List QueueEntry := []
  retry : Timer := none
  params : SpreadParams := {}
  deriving DecidableEq, Repr

/-! ### Fault Unit (spec/09) -/

/-- The 21 fault kinds, in code order (R167). -/
inductive FaultKind
  | linkNoAlign | linkAlignLost | linkNoisy | chainReset | chainOverlength | chainEmpty | chainEcho
  | unitSilent | unitReplaced | unitRestarted | unitPaHot | unitVswr | unitSupply | bandUnsupported
  | powerLimit | downlinkClip | noiseCeiling | uplinkOverload | licenceRevoked | donorLost | operatorSuspended
  deriving DecidableEq, Repr

/-- The source of a fault report (R167). -/
inductive Source
  | link (l : LinkId) | unit (u : UnitId) | feed (f : FeedId) | port (p : PortId) | operator (o : OpId)
  deriving DecidableEq, Repr

/-- The event of a fault report (R168). -/
inductive FaultEvent | active | inactive | occurred
  deriving DecidableEq, Repr

/-- The policy flags of a kind (R169). -/
structure Policy where
  notify : Bool
  mute : Bool
  latch : Bool
  deriving DecidableEq, Repr

/-- A fault log entry (R171). -/
structure LogEntry where
  kind : FaultKind
  source : Source
  active : Bool
  occurrences : Nat
  first : Word
  last : Word
  detail : Word
  acked : Bool
  latch : Bool
  deriving DecidableEq, Repr

/-- An action record (R175): its hold is OCCURRENCE, or else CONDITION. -/
structure ActionRec where
  kind : FaultKind
  source : Source
  occurrence : Bool
  deriving DecidableEq, Repr

/-- The policy table after a cold reset, in code order (R167). -/
def defaultPolicies : Tbl Policy 21 :=
  ⟨#[⟨true, false, false⟩, ⟨true, false, false⟩, ⟨false, false, false⟩, ⟨true, false, false⟩, ⟨true, false, false⟩,
     ⟨false, false, false⟩, ⟨false, false, false⟩, ⟨true, false, false⟩, ⟨true, false, false⟩, ⟨false, false, false⟩,
     ⟨true, true, false⟩, ⟨true, true, true⟩, ⟨true, false, false⟩, ⟨false, false, false⟩, ⟨true, false, false⟩,
     ⟨false, false, false⟩, ⟨true, false, false⟩, ⟨true, false, false⟩, ⟨true, false, false⟩, ⟨true, false, false⟩,
     ⟨false, false, false⟩], rfl⟩

/-- The Fault Unit. -/
structure FaultUnit where
  policy : Tbl Policy 21 := defaultPolicies
  log : List LogEntry := []
  overflow : Bool := false
  actions : List ActionRec := []
  clock : Word := 0
  deriving DecidableEq, Repr

/-! ### Management Port (spec/10) -/

/-- A field of a reply or notice, by its width (R202). -/
inductive Fld
  /-- One octet: a number, choice, flag, set of one octet, form octet or count. -/
  | o1 (n : Nat)
  /-- Two octets: an unsigned quantity up to 65535. -/
  | o2 (n : Nat)
  /-- Two octets: a signed level, threshold or offset. -/
  | i2 (x : Int)
  /-- Four octets: a larger quantity, a set of zones or blocks, a control word or detail word. -/
  | o4 (n : Nat)
  /-- Characters. -/
  | chars (l : List Octet)
  deriving DecidableEq, Repr

/-- The result of a request (R203). -/
inductive Result
  | done | none | badKind | badLength | badValue | notPermitted | notDefined | conflict | spectrum | overlap | setFull
  | inUse | busy | linkBusy | queueFull | held | linkState | absent | planInUse | planInvalid | layoutFixed | notEligible
  deriving DecidableEq, Repr

/-- A reply (R191): `kind` is the reply kind octet; `segment` counts the segments sent. -/
structure Reply where
  kind : Nat
  tag : BitVec 16
  result : Result
  fields : List Fld
  segment : Nat := 0
  /-- It is the DONE reply of an accepted RESET (R196). -/
  isReset : Bool := false
  deriving DecidableEq, Repr

/-- The notice kinds (R201). -/
inductive NoticeKind | fault | link | unit | zone | move | plan | ready
  deriving DecidableEq, Repr

/-- A notice of the notice queue (R193). -/
structure Notice where
  kind : NoticeKind
  seq : BitVec 8
  fields : List Fld
  deriving DecidableEq, Repr

/-- State of the receiver (R184). -/
inductive RxState | hunt | length | body | check
  deriving DecidableEq, Repr

/-- The receiver: state, assembly area, and whether it waits for the high line after a break (R187). -/
structure Receiver where
  state : RxState := .hunt
  area : List Octet := []
  awaitHigh : Bool := false
  deriving DecidableEq, Repr

/-- The frame being sent (R192): its octets, and whether it is a segment of the reply at the head of the reply list. -/
structure TxFrame where
  octets : List Octet
  isReply : Bool
  deriving DecidableEq, Repr

/-- Line rate (R185). -/
inductive LineRate | r115200 | r460800 | r921600 | r1843200
  deriving DecidableEq, Repr

/-- How far an accepted RESET of scope WARM has come (R196): none, its DONE reply waits, or that reply has been sent. -/
inductive WarmPhase | idle | accepted | due
  deriving DecidableEq, Repr

/-- The Management Port with its pins. -/
structure Port where
  rate : LineRate := .r115200
  rx : Receiver := {}
  input : List (List Octet) := []
  taking : Bool := false
  replies : List Reply := []
  owed : Nat := 0
  notices : List Notice := []
  seq : BitVec 8 := 0
  badFrames : Nat := 0
  noticeOverflow : Bool := false
  tx : Option TxFrame := none
  hold : Bool := false
  startUp : Bool := true
  pinAsserted : Bool := false
  warm : WarmPhase := .idle
  deriving DecidableEq, Repr

/-- The state of the part, and the queue of commands that wait. -/
structure State where
  pending : List Instr
  tu : Tenancy
  rt : RouteUnit
  lc : Tbl LinkRec 12
  um : UnitMgr
  le : LevelEngine
  lm : LoadMonitor
  se : SpreadEngine
  ps : PlanStore
  me : MigrationEngine
  fu : FaultUnit
  mp : Port
  /-- The uplink sample last put on each donor port lane; lane l of port p is 4 × p + l (spec/01 R15, spec/05 R96). -/
  laneOut : Tbl IQ 32
  /-- The downlink sample last put in the frame payload of each position (spec/05 R102). -/
  payloadOut : Tbl IQ 48
  deriving DecidableEq, Repr

/-- The machine right after a cold reset: every field at its cold reset value, start-up in progress (spec/10 R198). -/
def State.reset : State where
  pending := []
  tu := {}
  rt := {}
  lc := Vector.replicate 12 {}
  um := {}
  le := {}
  lm := {}
  se := {}
  ps := {}
  me := {}
  fu := {}
  mp := {}
  laneOut := Vector.replicate 32 ⟨0, 0⟩
  payloadOut := Vector.replicate 48 ⟨0, 0⟩

end Sys2Proof.Machine
end

