-- ==== Sys2Proof/Machine/Ops.lean ====
section
/-! DEFINITION. The named operations over State: records and their updates, membership, routes, notices, replies, and
the taking of a request by MP (spec/10 R190). -/

namespace Sys2Proof.Machine

/-- What a command's meaning answers. -/
abbrev Out := Host.Outcome State Fault Refusal

/-! ### Records -/

abbrev State.op (s : State) (o : OpId) : OperatorRec := Vector.get s.tu.ops o
abbrev State.band (s : State) (b : SlotId) : Option Window := Vector.get s.tu.bands b
abbrev State.feed (s : State) (f : FeedId) : FeedRec := Vector.get s.tu.feeds f
abbrev State.monitor (s : State) (p : PortId) : DonorMonitor := Vector.get s.tu.monitors p
abbrev State.zone (s : State) (z : ZoneId) : ZoneRec := Vector.get s.rt.zones z
abbrev State.routeSet (s : State) (i : Fin 64) : RouteSet := Vector.get s.rt.sets i
abbrev State.link (s : State) (l : LinkId) : LinkRec := Vector.get s.lc l
abbrev State.unit (s : State) (u : UnitId) : UnitRec := Vector.get s.um.units u
abbrev State.arbiter (s : State) (l : LinkId) : Arbiter := Vector.get s.um.arbiters l
abbrev State.combiner (s : State) (f : FeedId) : CombinerRec := Vector.get s.le.combiners f
abbrev State.mixer (s : State) (u : UnitId) : MixerRec := Vector.get s.le.mixers u
abbrev State.measure (s : State) (u : UnitId) : MeasureRec := Vector.get s.lm.measures u
abbrev State.load (s : State) (z : ZoneId) : LoadRec := Vector.get s.lm.zones z
abbrev State.bank (s : State) (n : BankId) : Bank := Vector.get s.ps.banks n
abbrev State.activeBank (s : State) : Bank := s.bank s.ps.active
abbrev State.holdOf (s : State) (z : ZoneId) : Option Issuer := Vector.get s.ps.holds z
abbrev State.home (s : State) (u : UnitId) : Home := Vector.get s.me.homes u
abbrev State.blend (s : State) (u : UnitId) : Option Blend := Vector.get s.me.blends u

/-! ### Updates: each touches one block -/

def State.updOp (s : State) (o : OpId) (g : OperatorRec → OperatorRec) : State :=
  { s with tu := { s.tu with ops := s.tu.ops.upd o g } }
def State.setBand (s : State) (b : SlotId) (w : Option Window) : State :=
  { s with tu := { s.tu with bands := s.tu.bands.upd b fun _ => w } }
def State.updFeed (s : State) (f : FeedId) (g : FeedRec → FeedRec) : State :=
  { s with tu := { s.tu with feeds := s.tu.feeds.upd f g } }
def State.updMonitor (s : State) (p : PortId) (g : DonorMonitor → DonorMonitor) : State :=
  { s with tu := { s.tu with monitors := s.tu.monitors.upd p g } }
def State.setLicenceView (s : State) (f : FeedId) (b : Bool) : State :=
  { s with tu := { s.tu with licenceView := s.tu.licenceView.upd f fun _ => b } }
def State.setDonorView (s : State) (p : PortId) (b : Bool) : State :=
  { s with tu := { s.tu with donorView := s.tu.donorView.upd p fun _ => b } }
def State.setSuspendView (s : State) (o : OpId) (b : Bool) : State :=
  { s with tu := { s.tu with suspendView := s.tu.suspendView.upd o fun _ => b } }
def State.updZone (s : State) (z : ZoneId) (g : ZoneRec → ZoneRec) : State :=
  { s with rt := { s.rt with zones := s.rt.zones.upd z g } }
def State.updSet (s : State) (i : Fin 64) (g : RouteSet → RouteSet) : State :=
  { s with rt := { s.rt with sets := s.rt.sets.upd i g } }
def State.updLink (s : State) (l : LinkId) (g : LinkRec → LinkRec) : State :=
  { s with lc := s.lc.upd l g }
def State.updUnit (s : State) (u : UnitId) (g : UnitRec → UnitRec) : State :=
  { s with um := { s.um with units := s.um.units.upd u g } }
def State.updArbiter (s : State) (l : LinkId) (g : Arbiter → Arbiter) : State :=
  { s with um := { s.um with arbiters := s.um.arbiters.upd l g } }
def State.updCombiner (s : State) (f : FeedId) (g : CombinerRec → CombinerRec) : State :=
  { s with le := { s.le with combiners := s.le.combiners.upd f g } }
def State.updMixer (s : State) (u : UnitId) (g : MixerRec → MixerRec) : State :=
  { s with le := { s.le with mixers := s.le.mixers.upd u g } }
def State.updMeasure (s : State) (u : UnitId) (g : MeasureRec → MeasureRec) : State :=
  { s with lm := { s.lm with measures := s.lm.measures.upd u g } }
def State.updLoad (s : State) (z : ZoneId) (g : LoadRec → LoadRec) : State :=
  { s with lm := { s.lm with zones := s.lm.zones.upd z g } }
def State.updBank (s : State) (n : BankId) (g : Bank → Bank) : State :=
  { s with ps := { s.ps with banks := s.ps.banks.upd n g } }
def State.setHold (s : State) (z : ZoneId) (o : Option Issuer) : State :=
  { s with ps := { s.ps with holds := s.ps.holds.upd z fun _ => o } }
def State.setHome (s : State) (u : UnitId) (h : Home) : State :=
  { s with me := { s.me with homes := s.me.homes.upd u fun _ => h } }
def State.setBlend (s : State) (u : UnitId) (b : Option Blend) : State :=
  { s with me := { s.me with blends := s.me.blends.upd u fun _ => b } }
def State.updMe (s : State) (g : MigrationEngine → MigrationEngine) : State := { s with me := g s.me }
def State.updSe (s : State) (g : SpreadEngine → SpreadEngine) : State := { s with se := g s.se }
def State.updLm (s : State) (g : LoadMonitor → LoadMonitor) : State := { s with lm := g s.lm }
def State.updPs (s : State) (g : PlanStore → PlanStore) : State := { s with ps := g s.ps }
def State.updUm (s : State) (g : UnitMgr → UnitMgr) : State := { s with um := g s.um }
def State.updFu (s : State) (g : FaultUnit → FaultUnit) : State := { s with fu := g s.fu }
def State.updMp (s : State) (g : Port → Port) : State := { s with mp := g s.mp }
def State.setLane (s : State) (i : Fin 32) (x : IQ) : State := { s with laneOut := s.laneOut.upd i fun _ => x }
def State.setPayload (s : State) (u : UnitId) (x : IQ) : State := { s with payloadOut := s.payloadOut.upd u fun _ => x }

/-! ### Numbers of things (spec/00 section 0.5) -/

/-- The zone number, 1 to 24. -/
abbrev zoneNum (z : ZoneId) : Nat := z.val + 1
/-- The operator number, 1 to 8. -/
abbrev opNum (o : OpId) : Nat := o.val + 1
/-- The zone number of a home or target, 0 for zone 0. -/
def homeNum : Home → Nat
  | none => 0
  | some z => zoneNum z
/-- The issuer number: 0 the venue. -/
def issuerNum : Issuer → Nat
  | none => 0
  | some o => opNum o
/-- Index of unit L.P. -/
def unitAt (l : LinkId) (p : PosId) : UnitId := ⟨4 * l.val + p.val, by omega⟩
/-- The link of a unit. -/
def linkOf (u : UnitId) : LinkId := ⟨u.val / 4, by omega⟩
/-- The position of a unit on its chain. -/
def posOf (u : UnitId) : PosId := ⟨u.val % 4, by omega⟩
/-- The four units of a link. -/
def unitsOf (l : LinkId) : List UnitId := (indices 4).map (unitAt l)
/-- Lane `l` of port `p` among the 32 lanes. -/
def laneIndex (p : PortId) (l : LaneId) : Fin 32 := ⟨4 * p.val + l.val, by omega⟩

/-- The unit of a unit field (spec/04 R85): L.P or an index; none out of range. -/
def unitOfRef : UnitRef → Option UnitId
  | .lp l p => if h : l < 12 ∧ 1 ≤ p ∧ p ≤ 4 then some ⟨4 * l + (p - 1), by omega⟩ else none
  | .index n => if h : n < 48 then some ⟨n, h⟩ else none

/-! ### Radiating, routes and membership -/

/-- No mute reason is held. -/
def FeedMutes.isEmpty (m : FeedMutes) : Bool :=
  !(m.operatorSuspended || m.licenceRevoked || m.donorDown || m.faultAction || m.faultLatch || m.issuerMute)

/-- No mute reason is held. -/
def UnitMutes.isEmpty (m : UnitMutes) : Bool := !(m.faultAction || m.faultLatch || m.linkAction || m.issuerMute)

/-- A feed radiates when it is ENABLED and its mute-reason set is empty (spec/01 R15). -/
def FeedRec.radiates (r : FeedRec) : Bool := r.state = .enabled && r.mutes.isEmpty

abbrev State.radiates (s : State) (f : FeedId) : Bool := (s.feed f).radiates

/-- The unit is SERVING. -/
abbrev State.serving (s : State) (u : UnitId) : Bool := (s.unit u).state = .serving

/-- Set index of a key: (2 × zone number + feed number + 7 × operator number) mod 64 (spec/02 R27). -/
def setIndex (f : FeedId) (z : ZoneId) (o : OpId) : Fin 64 :=
  ⟨(2 * zoneNum z + f.val + 7 * opNum o) % 64, Nat.mod_lt _ (by decide)⟩

/-- The route has the key (f, z). -/
def Route.hasKey (r : Route) (f : FeedId) (z : ZoneId) : Bool := r.feed = f && r.zone = z

/-- The route with a key in a set, with its way (spec/02 R27): way 0 is searched first. -/
def RouteSet.find (rs : RouteSet) (f : FeedId) (z : ZoneId) : Option (Nat × Route) :=
  match rs.way0.filter (Route.hasKey · f z) with
  | some r => some (0, r)
  | none => (rs.way1.filter (Route.hasKey · f z)).map (1, ·)

/-- The set in which a key of the feed falls, by the operator in the feed's record; none for a FREE feed. -/
def State.keySet (s : State) (f : FeedId) (z : ZoneId) : Option (Fin 64) := (s.feed f).operator.map (setIndex f z)

/-- The route with the key (f, z), with its set and way. -/
def State.locate (s : State) (f : FeedId) (z : ZoneId) : Option (Fin 64 × Nat × Route) :=
  match s.keySet f z with
  | none => none
  | some i => ((s.routeSet i).find f z).map fun wr => (i, wr.1, wr.2)

/-- The route with the key (f, z). -/
def State.route (s : State) (f : FeedId) (z : ZoneId) : Option Route := (s.locate f z).map (·.2.2)

/-- Every route with its set and way, in order of set index and then way (spec/02 R33). -/
def State.routes (s : State) : List (Fin 64 × Nat × Route) :=
  (indices 64).flatMap fun i =>
    ((s.routeSet i).way0.toList.map fun r => (i, 0, r)) ++ ((s.routeSet i).way1.toList.map fun r => (i, 1, r))

/-- The zones named by the routes of a feed. -/
def State.zonesOfFeed (s : State) (f : FeedId) : List ZoneId :=
  (indices 24).filter fun z => s.routes.any fun r => r.2.2.hasKey f z

/-- The unit is a member of the zone: its home or its blend target (spec/02 R22). -/
def State.isMember (s : State) (u : UnitId) (z : ZoneId) : Bool :=
  s.home u = some z || (s.blend u).any fun b => b.target = some z

/-- The member list of a zone, in unit index order (spec/02 R22). -/
def State.members (s : State) (z : ZoneId) : List UnitId := (indices 48).filter fun u => s.isMember u z

/-- The live member count of a zone (spec/02 R22). -/
def State.liveCount (s : State) (z : ZoneId) : Nat := (s.members z).length

/-- The zones of which a unit is a member, each with the unit's extra attenuation there in dB, the origin first
(spec/05 R93, spec/08 R154). -/
def State.reach (s : State) (u : UnitId) : List (ZoneId × Nat) :=
  match s.blend u with
  | none => (s.home u).toList.map (·, 0)
  | some b => (s.home u).toList.map (·, b.p) ++ b.target.toList.map (·, b.depth - b.p)

/-- Every feed that a route of any of the zones names, in feed order. -/
def State.feedsAt (s : State) (zs : List ZoneId) : List FeedId :=
  let rs := s.routes
  (indices 32).filter fun f => zs.any fun z => rs.any fun r => r.2.2.hasKey f z

/-- The zones of which the unit is a member. -/
def State.zonesOf (s : State) (u : UnitId) : List ZoneId := (s.reach u).map (·.1)

/-- The members of any of the zones, in unit index order. -/
def State.membersOf (s : State) (zs : List ZoneId) : List UnitId :=
  (indices 48).filter fun u => zs.any (s.isMember u)

/-- The zone's live home members in role HOME, INCOMING or OUTGOING (spec/02 R22): the choice octet of a role. -/
def State.role (s : State) (u : UnitId) (z : ZoneId) : Nat :=
  match s.blend u with
  | none => 0
  | some _ => if s.home u = some z then 1 else 2

/-- The zone is held by some issuer (spec/07 R144); zone 0 is never held. -/
def State.isHeld (s : State) : Home → Bool
  | none => false
  | some z => (s.holdOf z).isSome

/-- The unit has an entry in the migration queue. -/
def State.isQueued (s : State) (u : UnitId) : Bool := s.me.queue.any (·.unit = u)

/-- The number of blend records (spec/08 R150). -/
def State.inFlight (s : State) : Nat := ((indices 48).filter fun u => (s.blend u).isSome).length

/-! ### Fields of replies and notices (spec/10 R202) -/

/-- A flag or an on-or-off choice: 00h the first value listed. -/
def Fld.flag (yes : Bool) : Fld := .o1 (if yes then 0 else 1)
/-- Bits of a set, the first member least significant. -/
def bits : List Bool → Nat
  | [] => 0
  | b :: l => (if b then 1 else 0) + 2 * bits l
/-- A unit as the part names it: link then position (notes/assumptions/50.md). -/
def Fld.unit (u : UnitId) : List Fld := [.o1 (linkOf u).val, .o1 ((posOf u).val + 1)]
/-- A word of 32 bits. -/
def Fld.word (w : Word) : Fld := .o4 w.toNat
/-- An optional field. -/
def Fld.opt (x : Option Fld) : List Fld :=
  match x with
  | none => [.o1 0]
  | some f => [.o1 1, f]
/-- A label. -/
def Fld.label (l : List Octet) : List Fld := [.o1 l.length, .chars l]
/-- A list: its entry count, then the entries. -/
def Fld.list {α : Type} (f : α → List Fld) (l : List α) : List Fld := .o1 l.length :: l.flatMap f

/-- The octets of a field. -/
def Fld.octets : Fld → List Octet
  | .o1 n => octets1 n
  | .o2 n => octets2 n
  | .i2 x => octetsSigned x
  | .o4 n => octets4 n
  | .chars l => l

/-- The octet of a result (R203). -/
def Result.octet : Result → Nat
  | .done => 0x00 | .none => 0x01
  | .badKind => 0x10 | .badLength => 0x11 | .badValue => 0x12 | .notPermitted => 0x13
  | .notDefined => 0x20 | .conflict => 0x21 | .spectrum => 0x22 | .overlap => 0x23 | .setFull => 0x24 | .inUse => 0x25
  | .busy => 0x30 | .linkBusy => 0x31 | .queueFull => 0x32 | .held => 0x33 | .linkState => 0x34 | .absent => 0x35
  | .planInUse => 0x40 | .planInvalid => 0x41 | .layoutFixed => 0x42 | .notEligible => 0x43

/-- The octet of a notice kind (R201). -/
def NoticeKind.octet : NoticeKind → Nat
  | .fault => 0xC0 | .link => 0xC1 | .unit => 0xC2 | .zone => 0xC3 | .move => 0xC4 | .plan => 0xC5 | .ready => 0xC6

/-! ### Notices and replies -/

/-- Posting a notice (R193): it takes the notice sequence, which rises by 1 whether the notice is queued or discarded;
a full queue discards it and sets the notice-overflow flag. -/
def Port.post (m : Port) (k : NoticeKind) (fields : List Fld) : Port :=
  if m.notices.length < Config.noticeCapacity then
    { m with notices := m.notices ++ [⟨k, m.seq, fields⟩], seq := m.seq + 1 }
  else { m with noticeOverflow := true, seq := m.seq + 1 }

def State.post (s : State) (k : NoticeKind) (fields : List Fld) : State := s.updMp (·.post k fields)

/-- A reply joins the reply list (R191): its kind octet is the request's kind plus 80h. -/
def Port.reply (m : Port) (code : Nat) (tag : BitVec 16) (r : Result) (fields : List Fld) : Port :=
  { m with replies := m.replies ++ [{ kind := code + 0x80, tag := tag, result := r, fields := fields }] }

def State.reply (s : State) (code : Nat) (h : Hdr) (r : Result) (fields : List Fld := []) : State :=
  s.updMp (·.reply code h.tag r fields)

/-- A relay's reply is handed to MP when its transaction or its waiting ends (R190, spec/04 R88): the replies owed fall. -/
def State.relayReply (s : State) (tag : BitVec 16) (r : Result) (fields : List Fld) : State :=
  s.updMp fun m => { m.reply 0x19 tag r fields with owed := m.owed - 1 }

/-- A bad frame is counted, saturating at 65535 (R184). -/
def Port.countBad (m : Port) : Port := { m with badFrames := min 65535 (m.badFrames + 1) }

/-! ### Taking a request (R190) -/

/-- Who may make a request (R5, R206): the venue alone, every issuer, or an operator that owns the named feed. -/
inductive Right | venue | any | own (feed : Nat)
  deriving DecidableEq, Repr

/-- The issuer of a header: 0 the venue, 1 to 8 an operator. -/
def whoOf (h : Hdr) : Option Issuer :=
  if h.issuer = 0 then some none
  else if hi : h.issuer - 1 < 8 then some (some ⟨h.issuer - 1, hi⟩) else none

/-- The operator owns the feed of that number (R5): a FREE feed and a number out of range belong to no operator. -/
def State.ownsFeed (s : State) (o : OpId) (n : Nat) : Bool :=
  if hn : n < 32 then (s.feed ⟨n, hn⟩).state ≠ .free && (s.feed ⟨n, hn⟩).operator = some o else false

/-- The issuer check of R190 (check 3): the venue passes, an operator must be ACTIVE and within its rights. -/
def State.admits (s : State) (h : Hdr) (right : Right) : Bool :=
  match whoOf h with
  | none => false
  | some none => true
  | some (some o) =>
    (s.op o).state = .active &&
      match right with
      | .venue => false
      | .any => true
      | .own n => s.ownsFeed o n

/-- MP takes a frame when taking is open and replies in the list and owed are below 64 (R190); nothing is taken while
the RESET pin holds the part (R198). -/
def State.canTake (s : State) : Bool :=
  s.mp.taking && !s.mp.pinAsserted && s.mp.replies.length + s.mp.owed < Config.replyCapacity

/-- The frame taken leaves the input buffer (R190): the head, when it carries this request. A request that no frame of
the buffer carries stands for a frame taken as it arrived (notes/assumptions/9.md). -/
def Port.dropTaken (m : Port) (i : Instr) : Port :=
  match m.input with
  | [] => m
  | body :: rest => if decodeBody body = i then { m with input := rest } else m

/-- A request as MP takes it: BAD_LENGTH, then NOT_PERMITTED, then the owning block's answer (R190). A request that cannot be
taken waits: nothing changes. -/
def State.takeForm (s : State) (i : Instr) (h : Hdr) (code : Nat) (right : Right) (body : State → State) : State :=
  if s.canTake then
    let s := s.updMp (·.dropTaken i)
    if !h.lengthOk then s.reply code h .badLength
    else if !s.admits h right then s.reply code h .notPermitted
    else body s
  else s

/-- A request whose owning block refuses BAD_VALUE a form octet beyond its rule's forms before its other checks (R190). -/
def State.take (s : State) (i : Instr) (h : Hdr) (code : Nat) (right : Right) (body : State → State) : State :=
  s.takeForm i h code right fun s => if !h.formOk then s.reply code h .badValue else body s

/-- An event at a block: nothing happens while the RESET pin holds every block (R198). -/
def State.unheld (s : State) (body : State → State) : State := if s.mp.pinAsserted then s else body s

/-! ### Timers -/

/-- One millisecond passes. -/
def tickTimer (t : Timer) : Timer := t.map (· - 1)

/-- The reading of a timer: its time left, or stopped. -/
def Fld.timer (t : Timer) : List Fld := Fld.opt (t.map Fld.o4)

end Sys2Proof.Machine
end

