-- ==== Sys2Proof/Machine/Flags.lean ====
section
/-! DEFINITION. Fault kinds and sources (spec/09 R167), and the writing of mute reasons with what each write sets in
motion at the Level Engine and the Unit Manager (spec/01 R15, spec/04 R84, spec/05 R103). -/

namespace Sys2Proof.Machine

/-! ### Kinds and sources -/

/-- The kinds in code order. -/
def allKinds : List FaultKind :=
  [.linkNoAlign, .linkAlignLost, .linkNoisy, .chainReset, .chainOverlength, .chainEmpty, .chainEcho,
   .unitSilent, .unitReplaced, .unitRestarted, .unitPaHot, .unitVswr, .unitSupply, .bandUnsupported,
   .powerLimit, .downlinkClip, .noiseCeiling, .uplinkOverload, .licenceRevoked, .donorLost, .operatorSuspended]

/-- The code of a kind, 1 to 21. -/
def FaultKind.code : FaultKind → Nat
  | .linkNoAlign => 1 | .linkAlignLost => 2 | .linkNoisy => 3 | .chainReset => 4 | .chainOverlength => 5
  | .chainEmpty => 6 | .chainEcho => 7 | .unitSilent => 8 | .unitReplaced => 9 | .unitRestarted => 10
  | .unitPaHot => 11 | .unitVswr => 12 | .unitSupply => 13 | .bandUnsupported => 14 | .powerLimit => 15
  | .downlinkClip => 16 | .noiseCeiling => 17 | .uplinkOverload => 18 | .licenceRevoked => 19 | .donorLost => 20
  | .operatorSuspended => 21

/-- The kind of a code. -/
def kindOfCode (n : Nat) : Option FaultKind := if n = 0 then none else allKinds[n - 1]?

/-- The place of a kind in the policy table. -/
def FaultKind.idx (k : FaultKind) : Fin 21 := ⟨k.code - 1, by cases k <;> decide⟩

/-- The source class of a kind. -/
def FaultKind.cls : FaultKind → SourceClass
  | .linkNoAlign | .linkAlignLost | .linkNoisy | .chainReset | .chainOverlength | .chainEmpty | .chainEcho => .link
  | .unitSilent | .unitReplaced | .unitRestarted | .unitPaHot | .unitVswr | .unitSupply | .bandUnsupported
  | .powerLimit | .downlinkClip => .unit
  | .noiseCeiling | .uplinkOverload | .licenceRevoked => .feed
  | .donorLost => .port
  | .operatorSuspended => .operator

/-- The kind is an occurrence, and otherwise a condition. -/
def FaultKind.isOccurrence : FaultKind → Bool
  | .linkAlignLost | .chainReset | .chainEcho | .unitReplaced | .unitRestarted => true
  | _ => false

def Source.cls : Source → SourceClass
  | .link _ => .link | .unit _ => .unit | .feed _ => .feed | .port _ => .port | .operator _ => .operator

/-- The number of a source in its class's range. -/
def Source.num : Source → Nat
  | .link l => l.val | .unit u => u.val | .feed f => f.val | .port p => p.val | .operator o => opNum o

/-- The source of a class and number; none when the number is out of the class's range. -/
def sourceOf (c : SourceClass) (n : Nat) : Option Source :=
  match c with
  | .link => if h : n < 12 then some (.link ⟨n, h⟩) else none
  | .unit => if h : n < 48 then some (.unit ⟨n, h⟩) else none
  | .feed => if h : n < 32 then some (.feed ⟨n, h⟩) else none
  | .port => if h : n < 8 then some (.port ⟨n, h⟩) else none
  | .operator => if h : n - 1 < 8 then (if n = 0 then none else some (.operator ⟨n - 1, h⟩)) else none

/-- The policy in force for a kind. -/
abbrev State.policy (s : State) (k : FaultKind) : Policy := Vector.get s.fu.policy k.idx

/-! ### Follow-up work -/

/-- Work that a change of inputs sets in motion (spec/05 R103, spec/04 R74, R76): a combiner or a mixer to recompute, a
unit's wanted band set to derive and its BAND_UNSUPPORTED to judge. -/
inductive Work | combiner (f : FeedId) | mixer (u : UnitId) | bands (u : UnitId)
  deriving DecidableEq, Repr

/-- The work is a combiner's. -/
def Work.ofFeed : Work → Bool
  | .combiner _ => true
  | .mixer _ | .bands _ => false

/-- A state with the work its change set in motion. -/
abbrev Worked := State × List Work

/-- Do one after the other and gather the work. -/
def thenWork (w : Worked) (g : State → Worked) : Worked :=
  let r := g w.1
  (r.1, w.2 ++ r.2)

/-- Do it for each in order and gather the work. -/
def eachWork {α : Type} (l : List α) (g : α → State → Worked) (s : State) : Worked :=
  l.foldl (fun w a => thenWork w (g a)) (s, [])

/-- A feed starts or stops radiating: its combiner, and mixer and bands of every member of every zone its routes name. -/
def State.feedWork (s : State) (f : FeedId) : List Work :=
  let ms := s.membersOf (s.zonesOfFeed f)
  .combiner f :: ms.map .mixer ++ ms.map .bands

/-- A route change: the feed's combiner, and mixer and bands of every member of the zone (spec/02 R34). -/
def State.routeWork (s : State) (f : FeedId) (z : ZoneId) : List Work :=
  let ms := s.members z
  .combiner f :: ms.map .mixer ++ ms.map .bands

/-- The combiners of every feed routed to a zone of the unit. -/
def State.uplinkWork (s : State) (u : UnitId) : List Work := (s.feedsAt (s.zonesOf u)).map .combiner

/-- A unit's state or identity changes: every feed routed to a zone of the unit, and its mixer. -/
def State.unitWork (s : State) (u : UnitId) : List Work := s.uplinkWork u ++ [.mixer u]

/-- A unit's membership changes: feeds routed to a zone of before or after, its mixer and its bands. -/
def State.memberWork (s : State) (u : UnitId) (before : List ZoneId) : List Work :=
  (s.feedsAt (before ++ s.zonesOf u)).map .combiner ++ [.mixer u, .bands u]

/-! ### Writing mute reasons -/

/-- Write a feed's record; a feed that starts or stops radiating is reported (spec/01 R15). -/
def writeFeed (f : FeedId) (g : FeedRec → FeedRec) (s : State) : Worked :=
  let s' := s.updFeed f g
  (s', if s'.radiates f = s.radiates f then [] else s'.feedWork f)

/-- Write a feed's mute reasons. -/
def muteFeed (f : FeedId) (g : FeedMutes → FeedMutes) : State → Worked :=
  writeFeed f fun r => { r with mutes := g r.mutes }

/-- Write a unit's mute reasons: a SERVING unit whose set becomes empty or not empty is reported (spec/04 R84); mute reasons
enter the combiners, and no mixer record (spec/05 R93, R98). -/
def muteUnit (u : UnitId) (g : UnitMutes → UnitMutes) (s : State) : Worked :=
  let s' := s.updUnit u fun r => { r with mutes := g r.mutes }
  (s', if (s'.unit u).mutes.isEmpty = (s.unit u).mutes.isEmpty || !s.serving u then [] else s'.uplinkWork u)

end Sys2Proof.Machine
end

