-- ==== Sys2Proof/Machine/Faults.lean ====
section
/-! DEFINITION. The Fault Unit's taking of a report: log, mute, latch, notice (spec/09 R168 to R177). -/

namespace Sys2Proof.Machine

/-- The entry is that of the (kind, source). -/
def LogEntry.names (e : LogEntry) (k : FaultKind) (src : Source) : Bool := e.kind = k && e.source = src

def FaultUnit.find (fu : FaultUnit) (k : FaultKind) (src : Source) : Option LogEntry := fu.log.find? (·.names k src)

/-- The action record of the (kind, source). -/
def FaultUnit.action (fu : FaultUnit) (k : FaultKind) (src : Source) : Option ActionRec :=
  fu.actions.find? fun a => a.kind = k && a.source = src

/-- The place of the entry in the log, counted from 1; 0 when there is none. -/
def FaultUnit.place (fu : FaultUnit) (k : FaultKind) (src : Source) : Nat :=
  match fu.log.findIdx? (·.names k src) with
  | some i => i + 1
  | none => 0

/-! ### The log (R172 to R174) -/

/-- An entry that may be evicted (R173). -/
def FaultUnit.evictable (fu : FaultUnit) (e : LogEntry) : Bool :=
  e.acked && !e.active && !e.latch && (fu.action e.kind e.source).isNone

/-- Age of an entry: the run clock less its last time, modulo 2^32. -/
def FaultUnit.age (fu : FaultUnit) (e : LogEntry) : Nat := (fu.clock - e.last).toNat

/-- The entry to evict: the oldest evictable one, the earlier in the log at equal age (R173). -/
def FaultUnit.victim (fu : FaultUnit) : Option LogEntry :=
  (fu.log.filter fu.evictable).foldl
    (fun best e => match best with
      | none => some e
      | some b => if fu.age b < fu.age e then some e else some b)
    none

/-- A new entry (R172). -/
def newEntry (k : FaultKind) (src : Source) (ev : FaultEvent) (detail now : Word) : LogEntry :=
  { kind := k, source := src, active := ev = .active, occurrences := 1, first := now, last := now, detail := detail,
    acked := false, latch := false }

/-- An ACTIVE or OCCURRED report is logged (R172, R173); the flag says LOGGED. -/
def FaultUnit.logRaised (fu : FaultUnit) (k : FaultKind) (src : Source) (ev : FaultEvent) (detail : Word) : FaultUnit × Bool :=
  if fu.log.any (·.names k src) then
    ({ fu with log := fu.log.map fun e =>
        if e.names k src then
          { e with occurrences := min 65535 (e.occurrences + 1), last := fu.clock, detail := detail, acked := false,
                   active := ev = .active || e.active }
        else e }, true)
  else if fu.log.length < Config.logCapacity then
    ({ fu with log := fu.log ++ [newEntry k src ev detail fu.clock] }, true)
  else match fu.victim with
    | some v =>
      ({ fu with log := (fu.log.filter fun e => !e.names v.kind v.source) ++ [newEntry k src ev detail fu.clock],
                 overflow := false }, true)
    | none => ({ fu with overflow := true }, false)

/-- An INACTIVE report is logged (R174). -/
def FaultUnit.logInactive (fu : FaultUnit) (k : FaultKind) (src : Source) (detail : Word) : FaultUnit × Bool :=
  if fu.log.any (·.names k src) then
    ({ fu with log := fu.log.map fun e =>
        if e.names k src then { e with active := false, last := fu.clock, detail := detail } else e }, true)
  else (fu, false)

/-! ### Mutes (R175) -/

/-- Write the mute reason of action records on the targets of a source. -/
def writeAction (src : Source) (on : Bool) (s : State) : Worked :=
  match src with
  | .unit u => muteUnit u (fun m => { m with faultAction := on }) s
  | .feed f => muteFeed f (fun m => { m with faultAction := on }) s
  | .link l => eachWork (unitsOf l) (fun u => muteUnit u fun m => { m with linkAction := on }) s
  | .port _ | .operator _ => (s, [])

/-- An action record is created, if none exists for the (kind, source). -/
def createAction (k : FaultKind) (src : Source) (occurrence : Bool) (s : State) : Worked :=
  if (s.fu.action k src).isSome then (s, [])
  else writeAction src true (s.updFu fun fu => { fu with actions := fu.actions ++ [⟨k, src, occurrence⟩] })

/-- Action records are removed, and the reason with them from each target that no other record holds it on. A record's
targets follow from its source, and all kinds of a source class write one reason. -/
def removeActions (sel : ActionRec → Bool) (s : State) : Worked :=
  let gone := s.fu.actions.filter sel
  let s := s.updFu fun fu => { fu with actions := fu.actions.filter fun a => !sel a }
  eachWork gone (fun a s => if s.fu.actions.any (·.source = a.source) then (s, []) else writeAction a.source false s) s

/-- The mute step of a report (R175). -/
def muteStep (k : FaultKind) (src : Source) (ev : FaultEvent) (logged : Bool) (s : State) : Worked :=
  match ev with
  | .active => if (s.policy k).mute then createAction k src false s else (s, [])
  | .inactive => removeActions (fun a => a.kind = k && a.source = src && !a.occurrence) s
  | .occurred => if (s.policy k).mute && logged then createAction k src true s else (s, [])

/-! ### Latches (R176) -/

/-- Some log entry holds a latch on the unit: one of the unit itself, or one of its link. -/
def State.unitLatched (s : State) (u : UnitId) : Bool :=
  s.fu.log.any fun e => e.latch && (e.source = .unit u || e.source = .link (linkOf u))

/-- Some log entry holds a latch on the feed. -/
def State.feedLatched (s : State) (f : FeedId) : Bool := s.fu.log.any fun e => e.latch && e.source = .feed f

/-- FAULT_LATCH of the targets of a source is written as the log's latches stand. -/
def writeLatch (src : Source) (s : State) : Worked :=
  match src with
  | .unit u => muteUnit u (fun m => { m with faultLatch := s.unitLatched u }) s
  | .feed f => muteFeed f (fun m => { m with faultLatch := s.feedLatched f }) s
  | .link l => eachWork (unitsOf l) (fun u => muteUnit u fun m => { m with faultLatch := s.unitLatched u }) s
  | .port _ | .operator _ => (s, [])

/-- The latch of the (kind, source)'s entry is held or not held from here on. -/
def FaultUnit.setLatch (fu : FaultUnit) (k : FaultKind) (src : Source) (on : Bool) : FaultUnit :=
  { fu with log := fu.log.map fun e => if e.names k src then { e with latch := on } else e }

/-- The latch step of a report (R176). -/
def latchStep (k : FaultKind) (src : Source) (ev : FaultEvent) (logged : Bool) (s : State) : Worked :=
  if logged && ev ≠ .inactive && (s.policy k).latch && (s.fu.find k src).any (!·.latch) then
    writeLatch src (s.updFu (·.setLatch k src true))
  else (s, [])

/-! ### The notice (R177) -/

def FaultEvent.octet : FaultEvent → Nat
  | .active => 0 | .inactive => 1 | .occurred => 2

/-- The fields of a FAULT notice (R177). -/
def faultFields (k : FaultKind) (src : Source) (ev : FaultEvent) (detail : Word) (logged : Bool) (fu : FaultUnit) : List Fld :=
  let e := if logged then fu.find k src else none
  [.o1 k.code, .o1 src.num, .o1 ev.octet, .word detail, .flag logged, .o2 ((e.map (·.occurrences)).getD 0),
   .o1 (if logged then fu.place k src else 0), .flag (fu.action k src).isSome, .flag ((fu.find k src).any (·.latch)),
   .word fu.clock]

/-- The Fault Unit takes one report whole (R168): log, mute, latch, notice. The work that its mute and latch writes set
in motion is returned. -/
def report (k : FaultKind) (src : Source) (ev : FaultEvent) (detail : Word) (s : State) : Worked :=
  let (fu, logged) := match ev with
    | .inactive => s.fu.logInactive k src detail
    | _ => s.fu.logRaised k src ev detail
  let w := thenWork (muteStep k src ev logged { s with fu := fu }) (latchStep k src ev logged)
  if (w.1.policy k).notify then (w.1.post .fault (faultFields k src ev detail logged w.1.fu), w.2) else w

/-- A condition of which the reporting block's view is `was` is judged `now`: a change is reported (R59, R106 and the
notes of R62). -/
def reportChange (k : FaultKind) (src : Source) (was now : Bool) (detail : Word) (s : State) : Worked :=
  if was = now then (s, []) else report k src (if now then .active else .inactive) detail s

end Sys2Proof.Machine
end

