-- ==== Sys2Proof/Machine/Tables.lean ====
section
/-! DEFINITION. The fixed tables of the Level Engine (spec/05 R91), and the figures read from them: noise rise, power of
a level, backoff, base code. -/

namespace Sys2Proof.Machine

/-- Table W: amplitude weight of code c, 0 to 127 (R91). -/
def tableW : List Nat :=
  [32768, 30935, 29205, 27571, 26029, 24573, 23198, 21900, 20675, 19519, 18427, 17396, 16423, 15504, 14637, 13818, 13045, 12315, 11627, 10976] ++
  [10362, 9783, 9235, 8719, 8231, 7771, 7336, 6925, 6538, 6172, 5827, 5501, 5193, 4903, 4629, 4370, 4125, 3894, 3677, 3471] ++
  [3277, 3093, 2920, 2757, 2603, 2457, 2320, 2190, 2068, 1952, 1843, 1740, 1642, 1550, 1464, 1382, 1305, 1232, 1163, 1098] ++
  [1036, 978, 924, 872, 823, 777, 734, 693, 654, 617, 583, 550, 519, 490, 463, 437, 413, 389, 368, 347] ++
  [328, 309, 292, 276, 260, 246, 232, 219, 207, 195, 184, 174, 164, 155, 146, 138, 130, 123, 116, 110] ++
  [104, 98, 92, 87, 82, 78, 73, 69, 65, 62, 58, 55, 52, 49, 46, 44, 41, 39, 37, 35] ++
  [33, 31, 29, 28, 26, 25, 23, 22]

/-- Table Q: power weight of code c (R91). The entries of codes 97 to 127 are 0 and not listed. -/
def tableQ : List Nat :=
  [32768, 29205, 26029, 23198, 20675, 18427, 16423, 14637, 13045, 11627, 10362, 9235, 8231, 7336, 6538, 5827, 5193, 4629, 4125, 3677] ++
  [3277, 2920, 2603, 2320, 2068, 1843, 1642, 1464, 1305, 1163, 1036, 924, 823, 734, 654, 583, 519, 463, 413, 368] ++
  [328, 292, 260, 232, 207, 184, 164, 146, 130, 116, 104, 92, 82, 73, 65, 58, 52, 46, 41, 37] ++
  [33, 29, 26, 23, 21, 18, 16, 15, 13, 12, 10, 9, 8, 7, 7, 6, 5, 5, 4, 4] ++
  [3, 3, 3, 2, 2, 2, 2, 1, 1, 1, 1, 1, 1, 1, 1, 1, 1]

/-- Table T: threshold of noise rise n, 0 to 200 (R91). -/
def tableT : List Nat :=
  [32768, 33531, 34312, 35112, 35929, 36766, 37623, 38499, 39396, 40313, 41252, 42213, 43197, 44203, 45232, 46286, 47364, 48467, 49596, 50752] ++
  [51934, 53143, 54381, 55648, 56944, 58271, 59628, 61017, 62438, 63893, 65381, 66904, 68462, 70057, 71689, 73358, 75067, 76816, 78605, 80436] ++
  [82309, 84227, 86189, 88196, 90251, 92353, 94504, 96705, 98958, 101263, 103622, 106035, 108505, 111032, 113619, 116265, 118973, 121745, 124580, 127482] ++
  [130452, 133490, 136600, 139782, 143038, 146369, 149779, 153267, 156838, 160491, 164229, 168054, 171969, 175975, 180074, 184268, 188560, 192952, 197447, 202046] ++
  [206752, 211568, 216496, 221539, 226699, 231980, 237383, 242913, 248571, 254361, 260285, 266348, 272552, 278901, 285397, 292045, 298848, 305809, 312932, 320221] ++
  [327680, 335313, 343123, 351115, 359294, 367663, 376227, 384990, 393958, 403134, 412525, 422134, 431966, 442028, 452324, 462860, 473642, 484674, 495964, 507516] ++
  [519338, 531435, 543813, 556480, 569443, 582707, 596280, 610169, 624381, 638925, 653808, 669037, 684621, 700567, 716886, 733584, 750672, 768157, 786050, 804359] ++
  [823095, 842267, 861886, 881962, 902506, 923528, 945039, 967052, 989578, 1012628, 1036215, 1060352, 1085050, 1110325, 1136187, 1162653, 1189734, 1217447, 1245805, 1274823] ++
  [1304518, 1334904, 1365998, 1397816, 1430375, 1463693, 1497787, 1532675, 1568375, 1604907, 1642290, 1680544, 1719689, 1759746, 1800736, 1842680, 1885602, 1929523, 1974467, 2020459] ++
  [2067521, 2115680, 2164960, 2215389, 2266992, 2319797, 2373832, 2429125, 2485707, 2543607, 2602855, 2663483, 2725524, 2789009, 2853973, 2920451, 2988477, 3058088, 3129320, 3202211] ++
  [3276800]

/-- Table F: power scaling of backoff b, 0 to 40 (R91). -/
def tableF : List Nat :=
  [65536, 58409, 52057, 46396, 41350, 36854, 32846, 29274, 26090, 23253, 20724, 18471, 16462, 14672, 13076, 11654, 10387, 9257, 8250, 7353] ++
  [6554, 5841, 5206, 4640, 4135, 3685, 3285, 2927, 2609, 2325, 2072, 1847, 1646, 1467, 1308, 1165, 1039, 926, 825, 735] ++
  [655]

/-- W[c] (R91). -/
def weightW (c : Nat) : Nat := (tableW[c]?).getD 0
/-- Q[c] (R91). -/
def weightQ (c : Nat) : Nat := (tableQ[c]?).getD 0
/-- T[n] (R91). -/
def thresholdT (n : Nat) : Nat := (tableT[n]?).getD 0
/-- F[b] (R91). -/
def scaleF (b : Nat) : Nat := (tableF[b]?).getD 0

/-- The smallest n in 0 to 200 for which S ≤ T[n] (R94). -/
def noiseRise (sum : Nat) : Nat := min 200 (tableT.findIdx fun t => sum ≤ t)

/-- Required G: 0, or the least integer not below (NR − NC) / 5 (R95). -/
def requiredG (nr nc : Nat) : Nat := (nr - nc + 4) / 5

/-- The greatest n below `lo + 2^k` for which `ok` holds, given that it holds at `lo` and up to some n only. -/
def largest (ok : Nat → Bool) : Nat → Nat → Nat
  | 0, lo => lo
  | k + 1, lo => largest ok k (if ok (lo + 2 ^ k) then lo + 2 ^ k else lo)

/-- n rounds 10^(e/100), or lies below it: n − 1/2 is at most 10^(e/100). -/
def atMostPower (e n : Nat) : Bool := (2 * n - 1) ^ 100 ≤ 2 ^ 100 * 10 ^ e

/-- 10^(e/100), rounded to the nearest integer with halves rounded up. -/
def roundedPower (e : Nat) : Nat := largest (atMostPower e) 24 0

/-- u(L') = round(1000 × 10^(L'/100)) µW, and 0 for a level of −270 or below (R100, notes/assumptions/17.md). -/
def powerOf (level : Int) : Nat := if level ≤ -270 then 0 else roundedPower (level + 300).toNat

/-- Whether b satisfies S_dl × F[b] ≤ Smax × 65536 (R100). -/
def backoffFits (composite smax f : Nat) : Bool := composite * f ≤ smax * 65536

/-- The smallest b in 0 to 40 that passes the test of R100, and 40 where none does. -/
def backoffOf (composite smax : Nat) : Nat := min 40 (tableF.findIdx (backoffFits composite smax))

/-- No b in 0 to 40 passes: POWER_LIMIT is active (R100). -/
def powerExceeds (composite smax : Nat) : Bool := !backoffFits composite smax (scaleF 40)

/-- The base code round((M − L) / 5), taken as 0 when it comes out below 0 (R101). -/
def baseCode (power : Nat) (level : Int) : Nat := ((2 * ((power : Int) - level) + 5) / 10).toNat

/-- A value saturated to −32768 to 32767, and whether it was (R96, R102). -/
def saturate (y : Int) : Int × Bool :=
  if y < -32768 then (-32768, true) else if 32767 < y then (32767, true) else (y, false)

/-- One component of the combiner: floor((A × W[G] + 2^29) / 2^30), saturated (R96). -/
def combine (a : Int) (g : Nat) : Int × Bool := saturate ((a * weightW g + 2 ^ 29) / 2 ^ 30)

/-- One component of the mixer: floor((sum + 2^14) / 2^15), saturated (R102). -/
def mix (a : Int) : Int × Bool := saturate ((a + 2 ^ 14) / 2 ^ 15)

end Sys2Proof.Machine
end

