-- ==== Sys2Proof/Machine/Level.lean ====
section
/-! DEFINITION. The Level Engine (spec/05): contributing sets and combiner figures, term lists and mixer figures, the
wanted band set that the same events derive (spec/04 R74, R76), recomputation, admission, sample paths, and the
meanings of COMBINER_SAMPLE, MIXER_SAMPLE, LEVEL_SET and LEVEL_READ. -/

namespace Sys2Proof.Machine

/-! ### Combiners (R92 to R95) -/

/-- The record of a feed's operator. -/
def State.feedOp (s : State) (f : FeedId) : OperatorRec := ((s.feed f).operator.map s.op).getD {}

/-- The feed's band slot is in the unit's band mask. -/
def State.supports (s : State) (u : UnitId) (f : FeedId) : Bool := (s.unit u).mask.getLsbD (s.feed f).slot.val

/-- Of at most two, the second where it is better, and otherwise the first. -/
def pick {α : Type} (better : α → α → Bool) : List α → Option α
  | [] => none
  | a :: l => match l with
    | [] => some a
    | b :: _ => if better b a then some b else some a

/-- The code c_i(z) of a unit at an extra attenuation, capped at 127 (R93). -/
def uplinkCode (atten extra : Nat) : Nat := min 127 (atten + 2 * extra)

/-- The zones through which a unit reaches a feed's combiner, with its code in each, the origin first (R93). -/
def State.uplinkZones (s : State) (f : FeedId) (u : UnitId) : List (ZoneId × Nat) :=
  ((s.reach u).filter fun ze => (s.route f ze.1).any (·.uplink)).map
    fun ze => (ze.1, uplinkCode (s.unit u).atten ze.2)

/-- The entry of a unit in a feed's contributing set (R93). -/
def State.entryOf (s : State) (f : FeedId) (u : UnitId) : Option CombEntry :=
  if s.radiates f && s.serving u && (s.unit u).mutes.isEmpty && s.supports u f then
    (pick (fun a b => a.2 < b.2) (s.uplinkZones f u)).map fun zc => ⟨u, zc.1, zc.2⟩
  else none

/-- The contributing set of a feed, in unit index order (R92, R93). -/
def State.contributing (s : State) (f : FeedId) : List CombEntry := (indices 48).filterMap (s.entryOf f)

/-- The noise sum of the codes of a set (R94). -/
def noiseSum (codes : List Nat) : Nat := (codes.map weightQ).foldl (· + ·) 0

/-- A combiner record with the figures of a contributing set, under an operator's NC and GL (R94, R95). -/
def CombinerRec.figures (c : CombinerRec) (set : List CombEntry) (nc gl : Nat) : CombinerRec :=
  let sum := noiseSum (set.map (·.code))
  let nr := noiseRise sum
  { c with set := set, sum := sum, nr := nr, required := requiredG nr nc, g := min (requiredG nr nc) gl }

/-- A feed's combiner record, formed from every input as it stands (R103). -/
def State.combinerNow (s : State) (f : FeedId) : CombinerRec :=
  (s.combiner f).figures (s.contributing f) (s.feedOp f).nc (s.feedOp f).gl

/-- NOISE_CEILING is judged: its view is written, and a change reported with NR (R95, R106). -/
def judgeNoise (f : FeedId) (now : Bool) (s : State) : Worked :=
  reportChange .noiseCeiling (.feed f) (s.combiner f).noiseCeiling now (BitVec.ofNat 32 (s.combiner f).nr)
    (s.updCombiner f fun c => { c with noiseCeiling := now })

/-- UPLINK_OVERLOAD is judged: its view is written, and a change reported with the saturation count (R97, R106). -/
def judgeOverload (f : FeedId) (now : Bool) (s : State) : Worked :=
  reportChange .uplinkOverload (.feed f) (s.combiner f).overload now (BitVec.ofNat 32 (s.combiner f).saturations)
    (s.updCombiner f fun c => { c with overload := now })

/-- A feed's combiner is recomputed and judged (R95, R103). The conditions of a feed that is not ENABLED become
inactive (R106). -/
def recombine (f : FeedId) (s : State) : Worked :=
  let s := s.updCombiner f fun _ => s.combinerNow f
  if s.radiates f then judgeNoise f ((s.feedOp f).gl < (s.combiner f).required) s
  else if (s.feed f).state = .enabled then (s, [])
  else thenWork (judgeNoise f false s) (judgeOverload f false)

/-! ### Mixers (R98 to R101) -/

/-- Of two ways to take a feed, the better has the smaller extra, or at equal extra the higher level (R99). -/
def betterTerm (b a : Route × Nat) : Bool := b.2 < a.2 || (b.2 = a.2 && a.1.level < b.1.level)

/-- The route through which a unit takes a feed, with the unit's extra there (R99). -/
def State.termRoute (s : State) (f : FeedId) (reach : List (ZoneId × Nat)) : Option (Route × Nat) :=
  pick betterTerm (reach.filterMap fun ze => (s.route f ze.1).map (·, ze.2))

/-- The feeds a unit takes through its zones, in feed order (R99). -/
def State.taken (s : State) (u : UnitId) (reach : List (ZoneId × Nat)) : List (FeedId × Route × Nat) :=
  (indices 32).filterMap fun f =>
    if s.radiates f && s.supports u f then (s.termRoute f reach).map (f, ·) else none

/-- The term level L' = L − 10 × extra (R99). -/
def termLevel (r : Route) (extra : Nat) : Int := r.level - 10 * (extra : Int)

/-- The composite: the sum of u, saturating at 4,294,967,295 µW (R98, R100). -/
def compositeOf (l : List (FeedId × Route × Nat)) : Nat :=
  min 4294967295 ((l.map fun t => powerOf (termLevel t.2.1 t.2.2)).foldl (· + ·) 0)

/-- A term (R98, R101): base code, twice the extra, and the backoff; omitted above 127. -/
def termOf (power b : Nat) (t : FeedId × Route × Nat) : Term :=
  let code := baseCode power t.2.1.level + 2 * t.2.2 + b
  { feed := t.1, zone := t.2.1.zone, level := termLevel t.2.1 t.2.2, power := powerOf (termLevel t.2.1 t.2.2),
    code := code, omitted := 127 < code }

/-- The rated composite power M of a unit's identity. -/
def UnitRec.rated (r : UnitRec) : Nat := (r.identity.map (·.power)).getD 0

/-- The rated limit Smax (R100). -/
def UnitRec.smax (r : UnitRec) : Nat := powerOf (r.rated : Int)

/-- A mixer record with the figures of the feeds taken, at rated power M (R98 to R101). -/
def MixerRec.figures (m : MixerRec) (taken : List (FeedId × Route × Nat)) (power : Nat) : MixerRec :=
  let smax := powerOf (power : Int)
  let b := backoffOf (compositeOf taken) smax
  { m with terms := taken.map (termOf power b), composite := compositeOf taken, smax := smax, backoff := b }

/-- A unit's mixer record, formed from every input as it stands: empty unless the unit is SERVING (R98, R103). -/
def State.mixerNow (s : State) (u : UnitId) : MixerRec :=
  if s.serving u then (s.mixer u).figures (s.taken u (s.reach u)) (s.unit u).rated
  else { s.mixer u with terms := [], composite := 0, smax := 0, backoff := 0 }

/-- POWER_LIMIT is judged: its view is written, and a change reported with S_dl in whole mW (R100, R106). -/
def judgePower (u : UnitId) (now : Bool) (s : State) : Worked :=
  reportChange .powerLimit (.unit u) (s.mixer u).powerLimit now (BitVec.ofNat 32 ((s.mixer u).composite / 1000))
    (s.updMixer u fun m => { m with powerLimit := now })

/-- DOWNLINK_CLIP is judged: its view is written, and a change reported with the clip count (R102, R106). -/
def judgeClip (u : UnitId) (now : Bool) (s : State) : Worked :=
  reportChange .downlinkClip (.unit u) (s.mixer u).clip now (BitVec.ofNat 32 (s.mixer u).clips)
    (s.updMixer u fun m => { m with clip := now })

/-- A unit's mixer is recomputed and judged (R100, R103). The conditions of a unit that is not SERVING become inactive
(R106). -/
def remix (u : UnitId) (s : State) : Worked :=
  let s := s.updMixer u fun _ => s.mixerNow u
  if s.serving u then judgePower u (powerExceeds (s.mixer u).composite (s.mixer u).smax) s
  else thenWork (judgePower u false s) (judgeClip u false)

/-! ### Wanted band sets (spec/04 R74, R76) -/

/-- The set of one band slot. -/
def slotBit (b : SlotId) : BitVec 8 := BitVec.ofNat 8 (2 ^ b.val)

/-- The band slots of the radiating feeds with a route naming a zone of which the unit is a member. -/
def State.neededBands (s : State) (u : UnitId) : BitVec 8 :=
  ((s.feedsAt (s.zonesOf u)).filter s.radiates).foldl (fun acc f => acc ||| slotBit (s.feed f).slot) 0

/-- The wanted band set is derived; an ABSENT unit's is kept for its return (R74, notes/assumptions/38.md). Config due is set
where a SERVING unit's differs from its configured set (R74), and config failed falls with it (R75). -/
def UnitRec.derive (r : UnitRec) (needed : BitVec 8) : UnitRec :=
  let r := if r.state = .absent then r else { r with wanted := needed &&& r.mask }
  if r.state = .serving && r.configured ≠ some r.wanted then { r with configDue := true, configFailed := false } else r

/-- The set of band slots needed and unsupported; empty without an identity (R76). -/
def UnitRec.unsupported (r : UnitRec) (needed : BitVec 8) : BitVec 8 :=
  if r.identity.isSome then needed &&& ~~~r.mask else 0

/-- A unit's wanted band set is derived and BAND_UNSUPPORTED judged (R74, R76). -/
def rederive (u : UnitId) (s : State) : Worked :=
  let needed := s.neededBands u
  let missing := (s.unit u).unsupported needed
  reportChange .bandUnsupported (.unit u) (s.unit u).view.bandUnsupported (missing ≠ 0) (missing.setWidth 32)
    (s.updUnit u fun r => { r.derive needed with view := { r.view with bandUnsupported := missing ≠ 0 } })

/-! ### Recomputation (R103) -/

/-- One item of follow-up work. -/
def doWork (w : Work) (s : State) : Worked :=
  match w with
  | .combiner f => recombine f s
  | .mixer u => remix u s
  | .bands u => rederive u s

/-- A round of follow-up work: the combiners, then the units' work with what the combiners' reports have set in motion there
(notes/assumptions/14.md). Combiners that a round sets in motion are left for the next. -/
def workRound (w : Worked) : Worked :=
  let a := eachWork (w.2.filter (·.ofFeed)) doWork w.1
  let b := eachWork ((w.2 ++ a.2).filter (!·.ofFeed)) doWork a.1
  (b.1, a.2.filter (·.ofFeed) ++ b.2)

/-- Rounds of follow-up work until none is left. A round after the first that stops no feed leaves none, so that 34 rounds
suffice (notes/assumptions/15.md). -/
def drain : Nat → Worked → State
  | 0, w => w.1
  | n + 1, w => if w.2.isEmpty then w.1 else drain n (workRound w)

/-- The change with all its follow-up work done, at the end of its step (notes/assumptions/49.md). -/
def settle (w : Worked) : State := drain Config.roundBound w

/-! ### Admission (R105) -/

/-- The noise test of one feed: the required G of its contributing set with the unit at code a (extra 0) in place of any
entry of the unit is at most GL. -/
def State.noisePasses (s : State) (u : UnitId) (f : FeedId) : Bool :=
  let others := (s.contributing f).filter fun e => e.unit ≠ u
  let sum := noiseSum (uplinkCode (s.unit u).atten 0 :: others.map (·.code))
  requiredG (noiseRise sum) (s.feedOp f).nc ≤ (s.feedOp f).gl

/-- The feed takes part in the noise test for a unit and a zone. -/
def State.noiseConcerns (s : State) (u : UnitId) (z : ZoneId) (f : FeedId) : Bool :=
  s.radiates f && (s.route f z).any (·.uplink) && s.supports u f

/-- The power test: the composite of the unit with the zone as its only zone passes at the largest backoff. -/
def State.powerPasses (s : State) (u : UnitId) (z : ZoneId) : Bool :=
  backoffFits (compositeOf (s.taken u [(z, 0)])) (s.unit u).smax (scaleF 40)

/-- The answer to an admission query (R105): the first feed, in feed order, that fails the noise test, or the result of
the power test. Where both tests fail no rule says which of the two is named: the model names the feed
(notes/assumptions/58.md). -/
def State.admission (s : State) (u : UnitId) (z : ZoneId) : Admission :=
  match (indices 32).find? fun f => s.noiseConcerns u z f && !s.noisePasses u f with
  | some f => .noise f
  | none => if s.powerPasses u z then .pass else .power

/-! ### Sample paths (R96, R102) -/

/-- The weighted sum of one component of samples. -/
def weigh {α : Type} (code : α → Nat) (x : α → BitVec 16) (l : List α) : Int :=
  l.foldl (fun acc e => acc + weightW (code e) * (x e).toInt) 0

/-- A count of 32 bits, raised by the saturated components and saturating. -/
def raiseCount (n : Nat) (i q : Bool) : Nat := min 4294967295 (n + (if i then 1 else 0) + if q then 1 else 0)

/-- The sample of index `n` of a list, zero where the list is shorter. -/
def sampleAt (l : List IQ) (n : Nat) : IQ := (l[n]?).getD ⟨0, 0⟩

/-- The lane of a feed's donor port. -/
def State.laneOf (s : State) (f : FeedId) : Fin 32 := laneIndex (s.feed f).port (s.feed f).lane

/-- COMBINER_SAMPLE: a radiating feed's uplink sample is formed, put on its lane and its saturations counted (R96); the
lane of a feed that does not radiate carries zeros (R15). `xs` are the 48 units' samples for the feed. -/
def State.combineSample (s : State) (f : FeedId) (xs : List IQ) : State :=
  if (s.feed f).state = .free then s
  else if s.radiates f then
    let c := s.combiner f
    let yi := combine (weigh (·.code) (fun e => (sampleAt xs e.unit.val).i) c.set) c.g
    let yq := combine (weigh (·.code) (fun e => (sampleAt xs e.unit.val).q) c.set) c.g
    (s.updCombiner f fun c => { c with saturations := raiseCount c.saturations yi.2 yq.2 }).setLane (s.laneOf f)
      ⟨BitVec.ofInt 16 yi.1, BitVec.ofInt 16 yq.1⟩
  else s.setLane (s.laneOf f) ⟨0, 0⟩

/-- MIXER_SAMPLE: a SERVING unit without mute reason has its downlink sample formed and its saturations counted (R102);
every other position carries zeros (R98). `xs` are the 32 feeds' samples. -/
def State.mixSample (s : State) (u : UnitId) (xs : List IQ) : State :=
  if s.serving u && (s.unit u).mutes.isEmpty then
    let ts := (s.mixer u).terms.filter fun t => !t.omitted
    let yi := mix (weigh (·.code) (fun t => (sampleAt xs t.feed.val).i) ts)
    let yq := mix (weigh (·.code) (fun t => (sampleAt xs t.feed.val).q) ts)
    (s.updMixer u fun m => { m with clips := raiseCount m.clips yi.2 yq.2 }).setPayload u
      ⟨BitVec.ofInt 16 yi.1, BitVec.ofInt 16 yq.1⟩
  else s.setPayload u ⟨0, 0⟩

def execCombinerSample (f : FeedId) (xs : List IQ) (s : State) : Out := .next (s.unheld (·.combineSample f xs))

def execMixerSample (u : UnitId) (xs : List IQ) (s : State) : Out := .next (s.unheld (·.mixSample u xs))

/-! ### The evaluation period expiry (R97, R102) -/

/-- The value of an overload condition after an expiry: the count against the limit (R97). -/
def overloadNow (view : Bool) (count limit : Nat) : Bool := if view then !(count < limit / 4) else limit < count

/-- A feed's saturation count is judged at the expiry, if the feed radiates, and set to 0 (R97). -/
def expireFeed (f : FeedId) (s : State) : Worked :=
  let c := s.combiner f
  let w := if s.radiates f then judgeOverload f (overloadNow c.overload c.saturations s.le.limit) s else (s, [])
  (w.1.updCombiner f fun c => { c with saturations := 0 }, w.2)

/-- A unit's clip count is judged at the expiry, if the unit is SERVING without mute reason, and set to 0 (R102). -/
def expireUnit (u : UnitId) (s : State) : Worked :=
  let m := s.mixer u
  let w := if s.serving u && (s.unit u).mutes.isEmpty then judgeClip u (overloadNow m.clip m.clips s.le.limit) s
    else (s, [])
  (w.1.updMixer u fun m => { m with clips := 0 }, w.2)

/-- The Level Engine at an evaluation period expiry: feeds, then units, in number order; the work that mutes set in motion
follows (notes/assumptions/31.md). -/
def expireLevels (s : State) : State :=
  settle (thenWork (eachWork (indices 32) expireFeed s) (eachWork (indices 48) expireUnit))

/-! ### Requests (R107, R108) -/

/-- LEVEL_SET (R107). -/
def State.levelSet (s : State) (h : Hdr) (limit : Nat) : State :=
  if 1 ≤ limit && limit ≤ 65535 then ({ s with le := { s.le with limit := limit } } : State).reply 0x1B h .done
  else s.reply 0x1B h .badValue

def execLevelSet (h : Hdr) (limit : Nat) (s : State) : Out :=
  .next (s.take (.levelSet h limit) h 0x1B .venue (·.levelSet h limit))

/-- The fields of a combiner record (R108), its condition view in one octet (notes/assumptions/45.md) and a unit index in one
(notes/assumptions/50.md). -/
def State.combinerFields (s : State) (f : FeedId) : List Fld :=
  let c := s.combiner f
  [.o1 f.val, .flag (s.radiates f)] ++ Fld.list (fun e => [.o1 e.unit.val, .o1 (zoneNum e.zone), .o2 e.code]) c.set ++
    [.o4 c.sum, .o2 c.nr, .o2 c.required, .o2 c.g, .o4 c.saturations, .o1 (bits [c.noiseCeiling, c.overload])]

/-- The fields of a mixer record (R108). The last says "zeroed by a mute" for any mute reason held, in every state of the unit
(notes/assumptions/46.md); the condition view is one octet (notes/assumptions/45.md), and so is the unit index
(notes/assumptions/50.md). -/
def State.mixerFields (s : State) (u : UnitId) : List Fld :=
  let m := s.mixer u
  [.o1 u.val] ++ Fld.unit u ++
    Fld.list (fun t => [.o1 t.feed.val, .o1 (zoneNum t.zone), .i2 t.level, .o4 t.power, .o2 t.code, .flag t.omitted]) m.terms ++
    [.o4 m.composite, .o4 m.smax, .o2 m.backoff, .o4 m.clips, .o1 (bits [m.powerLimit, m.clip]),
     .flag (!(s.unit u).mutes.isEmpty)]

/-- LEVEL_READ (R108). -/
def State.levelRead (s : State) (h : Hdr) (sel : LevelSel) : State :=
  let limit := Fld.o2 s.le.limit
  match sel with
  | .feeds => s.reply 0x1C h .done (Fld.list s.combinerFields (indices 32) ++ [limit])
  | .units => s.reply 0x1C h .done (Fld.list s.mixerFields (indices 48) ++ [limit])
  | .feed n => if hn : n < 32 then s.reply 0x1C h .done (Fld.list s.combinerFields [⟨n, hn⟩] ++ [limit])
    else s.reply 0x1C h .badValue
  | .unit r => match unitOfRef r with
    | some u => s.reply 0x1C h .done (Fld.list s.mixerFields [u] ++ [limit])
    | none => s.reply 0x1C h .badValue

def execLevelRead (h : Hdr) (sel : LevelSel) (s : State) : Out :=
  .next (s.take (.levelRead h sel) h 0x1C .any (·.levelRead h sel))

end Sys2Proof.Machine
end

