-- ==== Sys2Proof/Machine/Tenancy.lean ====
section
/-! DEFINITION. The Tenancy Unit (spec/01): operators, band slots, licences, feeds and donor port monitors. -/

namespace Sys2Proof.Machine

/-! ### Ranges -/

/-- An operator number as its index; none outside 1 to 8. -/
def opOf (n : Nat) : Option OpId := if h : 1 ≤ n ∧ n ≤ 8 then some ⟨n - 1, by omega⟩ else none
/-- A number as an index of `m` things; none outside 0 to m − 1. -/
def numOf (m n : Nat) : Option (Fin m) := if h : n < m then some ⟨n, h⟩ else none
/-- A zone number as its index; none outside 1 to 24. -/
def zoneOf (n : Nat) : Option ZoneId := if h : 1 ≤ n ∧ n ≤ 24 then some ⟨n - 1, by omega⟩ else none
/-- A label: at most 12 characters of code 32 to 126 (R1). -/
def labelOk (l : List Octet) : Bool := l.length ≤ 12 && l.all fun c => 32 ≤ c.toNat && c.toNat ≤ 126

/-- What follows a change at the owning block, all of its work done, is the reply. -/
def State.answer (w : Worked) (code : Nat) (h : Hdr) (r : Result) (fields : List Fld := []) : State :=
  (settle w).reply code h r fields

/-! ### Conditions of the Tenancy Unit -/

/-- The feeds of an operator that are not FREE. -/
def State.feedsOfOp (s : State) (o : OpId) : List FeedId :=
  (indices 32).filter fun f => (s.feed f).state ≠ .free && (s.feed f).operator = some o

/-- The feeds on a donor port that are not FREE. -/
def State.feedsOfPort (s : State) (p : PortId) : List FeedId :=
  (indices 32).filter fun f => (s.feed f).state ≠ .free && (s.feed f).port = p

/-- The blocks `first` to `first + count − 1`. -/
def blockRun (first count : Nat) : BitVec 32 := BitVec.ofNat 32 ((2 ^ count - 1) * 2 ^ first)

/-- The blocks of a feed (R9). -/
def FeedRec.blocks (r : FeedRec) : BitVec 32 := blockRun r.firstBlock r.blockCount

/-- The licence set of an operator for a slot. -/
def State.licenceOf (s : State) (o : Option OpId) (b : SlotId) : BitVec 32 :=
  (o.map fun o => Vector.get (s.op o).licence b).getD 0

/-- The blocks of a feed outside its operator's licence (R9). -/
def State.unlicensed (s : State) (f : FeedId) : BitVec 32 :=
  (s.feed f).blocks &&& ~~~s.licenceOf (s.feed f).operator (s.feed f).slot

/-- The number of members of a set of blocks. -/
def blockTotal (b : BitVec 32) : Nat := ((List.range 32).filter b.getLsbD).length

/-- R9 is evaluated for a feed: LICENCE_REVOKED and its condition follow whether an ENABLED feed has a block outside its
licence. -/
def judgeLicence (f : FeedId) (s : State) : Worked :=
  let revoked := (s.feed f).state = .enabled && s.unlicensed f ≠ 0
  thenWork (muteFeed f (fun m => { m with licenceRevoked := revoked }) s) fun s =>
    reportChange .licenceRevoked (.feed f) (Vector.get s.tu.licenceView f) revoked
      (BitVec.ofNat 32 (blockTotal (s.unlicensed f))) (s.setLicenceView f revoked)

/-- DONOR_LOST is evaluated for a port: active while it is UNLOCKED with a feed that is not FREE (R17). -/
def judgeDonor (p : PortId) (s : State) : Worked :=
  let lost := !(s.monitor p).locked && !(s.feedsOfPort p).isEmpty
  reportChange .donorLost (.port p) (Vector.get s.tu.donorView p) lost (BitVec.ofNat 32 (s.feedsOfPort p).length)
    (s.setDonorView p lost)

/-- OPERATOR_SUSPENDED is evaluated for an operator (R3). -/
def judgeSuspension (o : OpId) (s : State) : Worked :=
  let on := (s.op o).state = .suspended
  reportChange .operatorSuspended (.operator o) (Vector.get s.tu.suspendView o) on
    (BitVec.ofNat 32 (s.feedsOfOp o).length) (s.setSuspendView o on)

/-- DONOR_DOWN of every feed of the port that is not FREE follows the monitor (R18). -/
def muteDonor (p : PortId) (down : Bool) (s : State) : Worked :=
  eachWork (s.feedsOfPort p) (fun f => muteFeed f fun m => { m with donorDown := down }) s

/-! ### Operators (R2 to R4) -/

/-- Every hold that the operator owns is released (R143). -/
def State.releaseHolds (s : State) (o : OpId) : State :=
  s.updPs fun p => { p with holds := p.holds.map fun owner => if owner = some (some o) then none else owner }

/-- Suspension and resumption write OPERATOR_SUSPENDED on the operator's feeds (R3). -/
def muteOperator (o : OpId) (on : Bool) (s : State) : Worked :=
  eachWork (s.feedsOfOp o) (fun f => muteFeed f fun m => { m with operatorSuspended := on }) s

/-- The combiners of an operator's feeds, where its NC or GL has changed (R2). -/
def State.ceilingWork (s : State) (o : OpId) (before : OperatorRec) : List Work :=
  if (s.op o).nc = before.nc && (s.op o).gl = before.gl then [] else (s.feedsOfOp o).map .combiner

/-- An accepted OPERATOR_SET: label, NC and GL are written, then the state change is made (R2 to R4). A change of NC or GL and a
suspension or resumption in one request reach the Level Engine together, and each feed is recomputed and judged only as both
leave it: the order taken of those that R104 of spec/05 allows is the choice of notes/assumptions/59.md. -/
def State.operatorChange (s : State) (o : OpId) (st : OperatorState) (label : List Octet) (nc gl : Nat) : Worked :=
  let before := s.op o
  match st with
  | .undefined => judgeSuspension o ((s.updOp o fun _ => {}).releaseHolds o)
  | _ =>
    let s := s.updOp o fun r => { r with state := st, label := label, nc := nc, gl := gl }
    let w : Worked := (s, s.ceilingWork o before)
    if st = .suspended && before.state ≠ .suspended then
      thenWork (thenWork w (muteOperator o true)) fun s => judgeSuspension o (s.releaseHolds o)
    else if st = .active && before.state = .suspended then
      thenWork (thenWork w (muteOperator o false)) (judgeSuspension o)
    else w

/-- OPERATOR_SET (R2). -/
def State.operatorSet (s : State) (h : Hdr) (op : Nat) (st : Option OperatorState) (label : List Octet) (nc gl : Nat) : State :=
  match opOf op, st with
  | some o, some st =>
    if !labelOk label || 120 < nc || 63 < gl then s.reply 0x01 h .badValue
    else if (s.op o).state = .undefined && st = .undefined then s.reply 0x01 h .none
    else if st = .undefined && !(s.feedsOfOp o).isEmpty then s.reply 0x01 h .inUse
    else State.answer (s.operatorChange o st label nc gl) 0x01 h .done
  | _, _ => s.reply 0x01 h .badValue

def execOperatorSet (h : Hdr) (op : Nat) (st : Option OperatorState) (label : List Octet) (nc gl : Nat) (s : State) : Out :=
  .next (s.take (.operatorSet h op st label nc gl) h 0x01 .venue (·.operatorSet h op st label nc gl))

/-! ### Band slots (R6, R7) -/

/-- Two windows of 160 MHz overlap: they share a frequency of positive width (R7). -/
def windowsMeet (a b : Int) : Bool := a < b + 160 && b < a + 160

/-- A start and offset within R6. -/
def windowOk (w : Window) : Bool :=
  400 ≤ w.start && w.start ≤ 6000 && -1000 ≤ w.offset && w.offset ≤ 1000 &&
    400 ≤ (w.start : Int) + w.offset && (w.start : Int) + w.offset ≤ 6000

/-- The windows conflict in one direction (R7 check 3). -/
def windowsConflict (a b : Window) : Bool :=
  windowsMeet a.start b.start || windowsMeet (a.start + a.offset) (b.start + b.offset)

/-- The band mask of an identity: the slots present whose downlink window lies inside one range (R72 of spec/04). -/
def bandMask (identity : Option Identity) (bands : Tbl (Option Window) 8) : BitVec 8 :=
  match identity with
  | none => 0
  | some i => (indices 8).foldl (fun acc b =>
      match Vector.get bands b with
      | some w => if i.ranges.any fun r => r.1 ≤ w.start && w.start + 160 ≤ r.2 then acc ||| slotBit b else acc
      | none => acc) 0

/-- A unit's band mask is derived again; a change is reported (R72 of spec/04). -/
def remask (u : UnitId) (s : State) : Worked :=
  let mask := bandMask (s.unit u).identity s.tu.bands
  let s' := s.updUnit u fun r => { r with mask := mask }
  (s', if mask = (s.unit u).mask then [] else s'.unitWork u ++ [.bands u])

/-- An accepted BAND_SET: the slot is written; a change of a present slot empties its licence sets; band masks follow (R7). -/
def State.bandChange (s : State) (b : SlotId) (w : Option Window) : Worked :=
  let s' := s.setBand b w
  let s' := if (s.band b).isSome && s.band b ≠ w then
      { s' with tu := { s'.tu with ops := s'.tu.ops.map fun r => { r with licence := r.licence.upd b fun _ => 0 } } }
    else s'
  eachWork (indices 48) remask s'

/-- BAND_SET (R7). -/
def State.bandSet (s : State) (h : Hdr) (slot : Nat) (w : Option Window) : State :=
  match numOf 8 slot with
  | none => s.reply 0x03 h .badValue
  | some b =>
    if w.any (!windowOk ·) then s.reply 0x03 h .badValue
    else if (indices 32).any fun f => (s.feed f).state ≠ .free && (s.feed f).slot = b then s.reply 0x03 h .inUse
    else if w.any fun w => (indices 8).any fun c => c ≠ b && (s.band c).any (windowsConflict w) then s.reply 0x03 h .conflict
    else State.answer (s.bandChange b w) 0x03 h .done

def execBandSet (h : Hdr) (slot : Nat) (w : Option Window) (s : State) : Out :=
  .next (s.take (.bandSet h slot w) h 0x03 .venue (·.bandSet h slot w))

/-! ### Licences (R8) -/

/-- The ENABLED feeds of an operator in a slot. -/
def State.enabledIn (s : State) (o : OpId) (b : SlotId) : List FeedId :=
  (indices 32).filter fun f => (s.feed f).state = .enabled && (s.feed f).operator = some o && (s.feed f).slot = b

/-- LICENCE_SET (R8); BAD_VALUE comes before NOT_DEFINED (notes/assumptions/57.md). -/
def State.licenceSet (s : State) (h : Hdr) (op slot : Nat) (blocks : BitVec 32) : State :=
  match opOf op, numOf 8 slot with
  | some o, some b =>
    if (s.op o).state = .undefined || (s.band b).isNone then s.reply 0x05 h .notDefined
    else
      let s := s.updOp o fun r => { r with licence := r.licence.upd b fun _ => blocks }
      State.answer (eachWork (s.enabledIn o b) judgeLicence s) 0x05 h .done
  | _, _ => s.reply 0x05 h .badValue

def execLicenceSet (h : Hdr) (op slot : Nat) (blocks : BitVec 32) (s : State) : Out :=
  .next (s.take (.licenceSet h op slot blocks) h 0x05 .venue (·.licenceSet h op slot blocks))

/-! ### Feeds (R11 to R16) -/

/-- Some route names the feed. -/
def State.routed (s : State) (f : FeedId) : Bool := s.routes.any (·.2.2.feed = f)

/-- The mute reasons after a definition (R11). -/
def FeedMutes.defined (m : FeedMutes) (suspended unlocked : Bool) : FeedMutes :=
  { operatorSuspended := suspended, donorDown := unlocked, faultLatch := m.faultLatch, issuerMute := m.issuerMute }

/-- FEED_DEFINE (R11); DONOR_LOST of the old port and of the new is evaluated (R17). -/
def State.feedDefine (s : State) (h : Hdr) (feed op slot first count port lane : Nat) : State :=
  match numOf 32 feed, opOf op, numOf 8 slot, numOf 8 port, numOf 4 lane with
  | some f, some o, some b, some p, some l =>
    if 31 < first || count < 1 || 32 < count || 32 < first + count then s.reply 0x06 h .badValue
    else if (s.feed f).state = .enabled || ((s.feed f).state = .defined && s.routed f) then s.reply 0x06 h .inUse
    else if (s.op o).state = .undefined || (s.band b).isNone then s.reply 0x06 h .notDefined
    else if (indices 32).any fun g => g ≠ f && (s.feed g).state ≠ .free && (s.feed g).port = p && (s.feed g).lane = l then
      s.reply 0x06 h .conflict
    else if blockRun first count &&& ~~~s.licenceOf (some o) b ≠ 0 then s.reply 0x06 h .spectrum
    else
      let old := s.feed f
      let moved := old.state ≠ .free && (old.port ≠ p || old.lane ≠ l)
      let s := if moved then s.setLane (s.laneOf f) ⟨0, 0⟩ else s
      let w := writeFeed f (fun r =>
        { state := .defined, operator := some o, slot := b, firstBlock := first, blockCount := count, port := p, lane := l,
          mutes := r.mutes.defined ((s.op o).state = .suspended) (!(s.monitor p).locked) }) s
      let w := if old.state ≠ .free then thenWork w (judgeDonor old.port) else w
      State.answer (thenWork w (judgeDonor p)) 0x06 h .done
  | _, _, _, _, _ => s.reply 0x06 h .badValue

def execFeedDefine (h : Hdr) (feed op slot first count port lane : Nat) (s : State) : Out :=
  .next (s.take (.feedDefine h feed op slot first count port lane) h 0x06 .venue
    (·.feedDefine h feed op slot first count port lane))

/-- Two feeds of one slot share a block (R12 check 2). -/
def FeedRec.overlaps (a b : FeedRec) : Bool := a.slot = b.slot && a.blocks &&& b.blocks ≠ 0

/-- Another ENABLED feed holds a block of the feed. -/
def State.overlapped (s : State) (f : FeedId) : Bool :=
  (indices 32).any fun g => g ≠ f && (s.feed g).state = .enabled && (s.feed f).overlaps (s.feed g)

/-- FEED_ENABLE on (R12). -/
def State.feedEnableOn (s : State) (h : Hdr) (feed : Nat) : State :=
  match numOf 32 feed with
  | none => s.reply 0x07 h .badValue
  | some f =>
    match (s.feed f).state with
    | .free => s.reply 0x07 h .notDefined
    | .enabled => s.reply 0x07 h .done
    | .defined =>
      if s.unlicensed f ≠ 0 then s.reply 0x07 h .spectrum
      else if s.overlapped f then s.reply 0x07 h .overlap
      else State.answer (writeFeed f (fun r => { r with state := .enabled }) s) 0x07 h .done

def execFeedEnableOn (h : Hdr) (feed : Nat) (s : State) : Out :=
  .next (s.take (.feedEnableOn h feed) h 0x07 (.own feed) (·.feedEnableOn h feed))

/-- FEED_ENABLE off (R13): LICENCE_REVOKED and its condition go, and the Level Engine's conditions of the feed with the
recomputation of its combiner (R106 of spec/05). -/
def State.feedEnableOff (s : State) (h : Hdr) (feed : Nat) : State :=
  match numOf 32 feed with
  | none => s.reply 0x07 h .badValue
  | some f =>
    match (s.feed f).state with
    | .free => s.reply 0x07 h .notDefined
    | .defined => s.reply 0x07 h .done
    | .enabled =>
      let w := thenWork (writeFeed f (fun r => { r with state := .defined }) s) (judgeLicence f)
      State.answer (w.1, .combiner f :: w.2) 0x07 h .done

def execFeedEnableOff (h : Hdr) (feed : Nat) (s : State) : Out :=
  .next (s.take (.feedEnableOff h feed) h 0x07 (.own feed) (·.feedEnableOff h feed))

/-- FEED_MUTE writes ISSUER_MUTE of a feed that is not FREE (R16). -/
def State.feedMute (s : State) (h : Hdr) (feed : Nat) (on : Bool) : State :=
  match numOf 32 feed with
  | none => s.reply 0x08 h .badValue
  | some f =>
    if (s.feed f).state = .free then s.reply 0x08 h .notDefined
    else State.answer (muteFeed f (fun m => { m with issuerMute := on }) s) 0x08 h .done

def execFeedMuteOn (h : Hdr) (feed : Nat) (s : State) : Out :=
  .next (s.take (.feedMuteOn h feed) h 0x08 (.own feed) (·.feedMute h feed true))

def execFeedMuteOff (h : Hdr) (feed : Nat) (s : State) : Out :=
  .next (s.take (.feedMuteOff h feed) h 0x08 (.own feed) (·.feedMute h feed false))

/-- FEED_RELEASE (R14): FAULT_LATCH stays on the FREE record; the lane receives zeros (R15). -/
def State.feedRelease (s : State) (h : Hdr) (feed : Nat) : State :=
  match numOf 32 feed with
  | none => s.reply 0x09 h .badValue
  | some f =>
    if (s.feed f).state = .free then s.reply 0x09 h .none
    else if (s.feed f).state = .enabled || s.routed f then s.reply 0x09 h .inUse
    else
      let port := (s.feed f).port
      let w := writeFeed f (fun r => { mutes := { faultLatch := r.mutes.faultLatch } }) (s.setLane (s.laneOf f) ⟨0, 0⟩)
      State.answer (thenWork w (judgeDonor port)) 0x09 h .done

def execFeedRelease (h : Hdr) (feed : Nat) (s : State) : Out :=
  .next (s.take (.feedRelease h feed) h 0x09 .venue (·.feedRelease h feed))

/-! ### Donor ports (R17, R18) -/

/-- The qualification that a level starts: 100 ms of high in UNLOCKED, 10 ms of low in LOCKED (R17). -/
def DonorMonitor.qualify (m : DonorMonitor) : DonorMonitor :=
  { m with qual := if m.locked then (if m.lockInput then none else some 10) else if m.lockInput then some 100 else none }

/-- LOCK_INPUT_CHANGE: the pin takes its level, and the qualification starts afresh or stops (R17). While the RESET pin
holds the part the level alone is taken. -/
def State.lockChange (s : State) (p : PortId) (high : Bool) : State :=
  s.updMonitor p fun m =>
    if m.lockInput = high then m
    else if s.mp.pinAsserted then { m with lockInput := high }
    else DonorMonitor.qualify { m with lockInput := high }

def execLockInputChange (p : PortId) (high : Bool) (s : State) : Out := .next (s.lockChange p high)

/-- The monitor enters LOCKED or UNLOCKED once its qualification runs (R18); the DONOR_DOWN of the port's feeds and
DONOR_LOST follow. -/
def State.donorPort (s : State) (p : PortId) (locked : Bool) : State :=
  let m := s.monitor p
  if m.locked ≠ locked && m.lockInput = locked && m.qual.isSome then
    settle (thenWork (muteDonor p (!locked) (s.updMonitor p fun m => { m with locked := locked, qual := none })) (judgeDonor p))
  else s

def execDonorPortLocked (p : PortId) (s : State) : Out := .next (s.unheld (·.donorPort p true))

def execDonorPortUnlocked (p : PortId) (s : State) : Out := .next (s.unheld (·.donorPort p false))

/-! ### Reading (R19) -/

def operatorStateOctet : OperatorState → Nat
  | .undefined => 0 | .active => 1 | .suspended => 2

def FeedState.octet : FeedState → Nat
  | .free => 0 | .defined => 1 | .enabled => 2

/-- The mute-reason set of a feed, in the order R10 lists the reasons. -/
def FeedMutes.bits (m : FeedMutes) : Nat :=
  Machine.bits [m.operatorSuspended, m.licenceRevoked, m.donorDown, m.faultAction, m.faultLatch, m.issuerMute]

/-- The fields of an operator record (R19): its eight licence sets follow without a count (notes/assumptions/41.md). -/
def State.operatorFields (s : State) (o : OpId) : List Fld :=
  let r := s.op o
  [.o1 (operatorStateOctet r.state)] ++ Fld.label r.label ++ [.o2 r.nc, .o2 r.gl] ++ r.licence.toList.map Fld.word

/-- The fields of a feed record (R19). -/
def State.feedFields (s : State) (f : FeedId) : List Fld :=
  let r := s.feed f
  [.o1 r.state.octet, .o1 ((r.operator.map opNum).getD 0), .o1 r.slot.val, .o1 r.firstBlock, .o1 r.blockCount,
   .o1 r.port.val, .o1 r.lane.val, .o1 r.mutes.bits, .flag r.radiates, .flag (s.monitor r.port).locked]

/-- A band slot: absent, or start and offset (R19). -/
def windowFields : Option Window → List Fld
  | none => [.o1 0]
  | some w => [.o1 1, .o2 w.start, .i2 w.offset]

/-- A read of records selected by a number or "all": a list with its entry count, also of one record
(notes/assumptions/41.md). -/
def State.readSel {α : Type} (s : State) (code : Nat) (h : Hdr) (sel : NumSel) (of : Nat → Option α) (every : List α)
    (fields : α → List Fld) : State :=
  match sel with
  | .all => s.reply code h .done (Fld.list fields every)
  | .one n => match of n with
    | some a => s.reply code h .done (Fld.list fields [a])
    | none => s.reply code h .badValue

def execOperatorRead (h : Hdr) (sel : NumSel) (s : State) : Out :=
  .next (s.take (.operatorRead h sel) h 0x02 .any fun s => s.readSel 0x02 h sel opOf (indices 8) s.operatorFields)

/-- BAND_READ (R19): the eight slots without a count (notes/assumptions/41.md). -/
def execBandRead (h : Hdr) (s : State) : Out :=
  .next (s.take (.bandRead h) h 0x04 .any fun s => s.reply 0x04 h .done (s.tu.bands.toList.flatMap windowFields))

def execFeedRead (h : Hdr) (sel : NumSel) (s : State) : Out :=
  .next (s.take (.feedRead h sel) h 0x0A .any fun s => s.readSel 0x0A h sel (numOf 32) (indices 32) s.feedFields)

end Sys2Proof.Machine
end

