-- ==== Sys2Proof/Machine/Routes.lean ====
section
/-! DEFINITION. Zones and the route table (spec/02). -/

namespace Sys2Proof.Machine

def Temperature.octet : Temperature → Nat
  | .normal => 0 | .hot => 1 | .cool => 2

/-! ### Zones (R21 to R25) -/

/-- ZONE_DEFINE on (R23): label written, zone defined; a zone that becomes defined starts NORMAL (R117 of spec/06). -/
def State.zoneDefineOn (s : State) (h : Hdr) (zone : Nat) (label : List Octet) : State :=
  match zoneOf zone with
  | none => s.reply 0x0B h .badValue
  | some z =>
    if !labelOk label then s.reply 0x0B h .badValue
    else
      let s' := s.updZone z fun _ => { defined := true, label := label }
      let s' := if (s.zone z).defined then s'
        else s'.updLoad z fun r => { r with temp := .normal, hotDwell := 0, coolDwell := 0 }
      s'.reply 0x0B h .done

def execZoneDefineOn (h : Hdr) (zone : Nat) (label : List Octet) (s : State) : Out :=
  .next (s.take (.zoneDefineOn h zone label) h 0x0B .venue (·.zoneDefineOn h zone label))

/-- The first object that keeps a zone defined, as the reply names it (R24): the route at the lowest set and way, the
lowest member, or the lowest plan with its lowest unit. A route is named by its feed and zone (notes/assumptions/41.md), a
unit by link and position (notes/assumptions/50.md). -/
def State.zoneUser (s : State) (z : ZoneId) : Option (List Fld) :=
  match s.routes.find? fun r => r.2.2.zone = z with
  | some r => some [.o1 0, .o1 r.2.2.feed.val, .o1 (zoneNum z)]
  | none => match (s.members z).head? with
    | some u => some (.o1 1 :: Fld.unit u)
    | none =>
      let homed := (indices 4).flatMap fun n =>
        ((indices 48).filter fun u => Vector.get (s.bank n).homes u = some z).map fun u => (n, u)
      homed.head?.map fun nu => [.o1 2, .o1 nu.1.val] ++ Fld.unit nu.2

/-- The fields of a ZONE notice (R118 of spec/06). -/
def zoneNotice (z : ZoneId) (old new : Temperature) (load cause : Nat) (clock : Word) : List Fld :=
  [.o1 (zoneNum z), .o1 old.octet, .o1 new.octet, .o2 load, .o1 cause, .word clock]

/-- A zone is undefined: label emptied, hold released, temperature NORMAL with dwells and load 0, and a ZONE notice where it
was not NORMAL (R24, R117 and R118 of spec/06), with the run clock at the undefinition (notes/assumptions/53.md). -/
def State.undefineZone (s : State) (z : ZoneId) : State :=
  let was := (s.load z).temp
  let s := ((s.updZone z fun _ => {}).setHold z none).updLoad z fun _ => {}
  if was = .normal then s else s.post .zone (zoneNotice z was .normal 0 4 s.fu.clock)

/-- ZONE_DEFINE off (R24). -/
def State.zoneDefineOff (s : State) (h : Hdr) (zone : Nat) : State :=
  match zoneOf zone with
  | none => s.reply 0x0B h .badValue
  | some z =>
    if !(s.zone z).defined then s.reply 0x0B h .none
    else match s.zoneUser z with
      | some object => s.reply 0x0B h .inUse object
      | none => (s.undefineZone z).reply 0x0B h .done

def execZoneDefineOff (h : Hdr) (zone : Nat) (s : State) : Out :=
  .next (s.take (.zoneDefineOff h zone) h 0x0B .venue (·.zoneDefineOff h zone))

/-- A number field that may say none. -/
def ownerField (o : Option Issuer) : Fld := .o1 ((o.map issuerNum).getD 0xFE)

/-- The fields of a zone (R25); an undefined zone reads with its cold reset values. A member is named by link and position
(notes/assumptions/50.md). -/
def State.zoneFields (s : State) (z : ZoneId) : List Fld :=
  let r := s.zone z
  if r.defined then
    [.flag true] ++ Fld.label r.label ++ Fld.list (fun u => Fld.unit u ++ [.o1 (s.role u z)]) (s.members z) ++
      [.o1 (s.liveCount z), .o1 (s.routes.filter (·.2.2.zone = z)).length, .o2 (s.load z).load,
       .o1 (s.load z).temp.octet, ownerField (s.holdOf z)]
  else [.flag false] ++ Fld.label [] ++ [.o1 0, .o1 0, .o1 0, .o2 0, .o1 0, ownerField none]

def execZoneRead (h : Hdr) (sel : NumSel) (s : State) : Out :=
  .next (s.take (.zoneRead h sel) h 0x0C .any fun s => s.readSel 0x0C h sel zoneOf (indices 24) s.zoneFields)

/-! ### Routes (R26 to R34) -/

/-- A level within R26. -/
def levelOk (level : Int) : Bool := -100 ≤ level && level ≤ 330

/-- A way of a set is written. -/
def RouteSet.put (rs : RouteSet) (way : Nat) (r : Option Route) : RouteSet :=
  if way = 0 then { rs with way0 := r } else { rs with way1 := r }

/-- The free way an insertion takes: way 0 first (R30). -/
def RouteSet.freeWay (rs : RouteSet) : Option Nat :=
  if rs.way0.isNone then some 0 else if rs.way1.isNone then some 1 else none

/-- A way is written and the route change reported (R34). -/
def putRoute (i : Fin 64) (way : Nat) (f : FeedId) (z : ZoneId) (r : Option Route) (s : State) : Worked :=
  let s := s.updSet i (·.put way r)
  (s, s.routeWork f z)

/-- A present route takes a level and an uplink enable; where both equal those held, nothing is reported (R29, R31). -/
def rewriteRoute (i : Fin 64) (way : Nat) (old : Route) (level : Int) (uplink : Bool) (s : State) : Worked :=
  if old.level = level && old.uplink = uplink then (s, [])
  else putRoute i way old.feed old.zone (some { old with level := level, uplink := uplink }) s

/-- The route of the zone whose feed is another feed of the same operator and band slot (R30 check 1). -/
def State.conflictIn (s : State) (f : FeedId) (z : ZoneId) : Option FeedId :=
  (s.routes.find? fun r => r.2.2.zone = z && r.2.2.feed ≠ f && (s.feed r.2.2.feed).operator = (s.feed f).operator &&
    (s.feed r.2.2.feed).slot = (s.feed f).slot).map (·.2.2.feed)

/-- The key of a route, or an empty key for a free way. -/
def keyFields : Option Route → List Fld
  | some r => [.o1 r.feed.val, .o1 (zoneNum r.zone)]
  | none => [.o1 0xFE, .o1 0xFE]

/-- ROUTE_ADD (R28 to R30): UPDATED is indicated by 00h, INSERTED by 01h. -/
def State.routeAdd (s : State) (h : Hdr) (feed zone : Nat) (level : Int) (uplink : Option (Option Bool)) : State :=
  match numOf 32 feed, zoneOf zone, uplink.getD (some true) with
  | some f, some z, some up =>
    if !levelOk level then s.reply 0x0D h .badValue
    else if (s.feed f).state = .free || !(s.zone z).defined then s.reply 0x0D h .notDefined
    else match s.keySet f z with
      | none => s.reply 0x0D h .notDefined
      | some i => match (s.routeSet i).find f z with
        | some (way, old) =>
          State.answer (rewriteRoute i way old level up s) 0x0D h .done [.o1 i.val, .o1 way, .o1 0]
        | none => match s.conflictIn f z with
          | some g => s.reply 0x0D h .conflict [.o1 g.val]
          | none => match (s.routeSet i).freeWay with
            | none =>
              s.reply 0x0D h .setFull
                (.o1 i.val :: keyFields (s.routeSet i).way0 ++ keyFields (s.routeSet i).way1)
            | some way =>
              State.answer (putRoute i way f z (some ⟨f, z, level, up⟩) s) 0x0D h .done [.o1 i.val, .o1 way, .o1 1]
  | _, _, _ => s.reply 0x0D h .badValue

def execRouteAdd (h : Hdr) (feed zone : Nat) (level : Int) (uplink : Option (Option Bool)) (s : State) : Out :=
  .next (s.take (.routeAdd h feed zone level uplink) h 0x0D (.own feed) (·.routeAdd h feed zone level uplink))

/-- ROUTE_LEVEL (R31): an absent uplink enable leaves the route's flag; BAD_VALUE comes before NOT_DEFINED
(notes/assumptions/57.md). -/
def State.routeLevel (s : State) (h : Hdr) (feed zone : Nat) (level : Int) (uplink : Option (Option Bool)) : State :=
  match numOf 32 feed, zoneOf zone with
  | some f, some z =>
    if !levelOk level || uplink = some none then s.reply 0x0E h .badValue
    else match s.locate f z with
      | none => s.reply 0x0E h .notDefined
      | some (i, way, old) =>
        State.answer (rewriteRoute i way old level ((uplink.getD none).getD old.uplink) s) 0x0E h .done [.o1 i.val, .o1 way]
  | _, _ => s.reply 0x0E h .badValue

def execRouteLevel (h : Hdr) (feed zone : Nat) (level : Int) (uplink : Option (Option Bool)) (s : State) : Out :=
  .next (s.take (.routeLevel h feed zone level uplink) h 0x0E (.own feed) (·.routeLevel h feed zone level uplink))

/-- ROUTE_REMOVE (R32). -/
def State.routeRemove (s : State) (h : Hdr) (feed zone : Nat) : State :=
  match numOf 32 feed, zoneOf zone with
  | some f, some z =>
    match s.locate f z with
    | none => s.reply 0x0F h .none
    | some (i, way, _) => State.answer (putRoute i way f z none s) 0x0F h .done [.o1 i.val, .o1 way]
  | _, _ => s.reply 0x0F h .badValue

def execRouteRemove (h : Hdr) (feed zone : Nat) (s : State) : Out :=
  .next (s.take (.routeRemove h feed zone) h 0x0F (.own feed) (·.routeRemove h feed zone))

/-- The fields of a route listed (R33); set index and way take one octet each (notes/assumptions/22.md). -/
def State.routeFields (s : State) (e : Fin 64 × Nat × Route) : List Fld :=
  [.o1 e.2.2.feed.val, .o1 (zoneNum e.2.2.zone), .i2 e.2.2.level, .flag e.2.2.uplink, .o1 e.1.val, .o1 e.2.1,
   .flag (s.radiates e.2.2.feed)]

/-- A way as the set selector returns it: a route, or free (R33). -/
def State.wayFields (s : State) (i : Fin 64) (way : Nat) (r : Option Route) : List Fld :=
  match r with
  | some r => .o1 0 :: s.routeFields (i, way, r)
  | none => [.o1 1]

/-- ROUTE_READ (R33). -/
def State.routeRead (s : State) (h : Hdr) (sel : RouteSel) : State :=
  let list (p : Route → Bool) : List Fld := Fld.list s.routeFields (s.routes.filter fun e => p e.2.2)
  match sel with
  | .all => s.reply 0x10 h .done (list fun _ => true)
  | .feed n => if n < 32 then s.reply 0x10 h .done (list fun r => r.feed.val = n) else s.reply 0x10 h .badValue
  | .zone n =>
    if 1 ≤ n && n ≤ 24 then s.reply 0x10 h .done (list fun r => zoneNum r.zone = n) else s.reply 0x10 h .badValue
  | .key f z =>
    if f < 32 && 1 ≤ z && z ≤ 24 then
      let found := s.routes.any fun e => e.2.2.feed.val = f && zoneNum e.2.2.zone = z
      s.reply 0x10 h (if found then .done else .none) (list fun r => r.feed.val = f && zoneNum r.zone = z)
    else s.reply 0x10 h .badValue
  | .set n => match numOf 64 n with
    | none => s.reply 0x10 h .badValue
    | some i =>
      s.reply 0x10 h .done (s.wayFields i 0 (s.routeSet i).way0 ++ s.wayFields i 1 (s.routeSet i).way1)

def execRouteRead (h : Hdr) (sel : RouteSel) (s : State) : Out :=
  .next (s.take (.routeRead h sel) h 0x10 .any (·.routeRead h sel))

end Sys2Proof.Machine
end

