-- ==== Sys2Proof/Machine/Migration.lean ====
section
/-! DEFINITION. The Migration Engine (spec/08): queue, start pass, blends, their ends, and its requests; with the single
reconcile of spec/07 R137 and the working flag of spec/06 R119, which its events form again. -/

namespace Sys2Proof.Machine

/-! ### MOVE notices (R163) -/

inductive MoveEvent | started | reversed | settled | reverted | dropped
  deriving DecidableEq, Repr

inductive MoveReason | unitLost | undefined | hold | capacity | noise | plan | abort
  deriving DecidableEq, Repr

def MoveEvent.octet : MoveEvent → Nat
  | .started => 0 | .reversed => 1 | .settled => 2 | .reverted => 3 | .dropped => 4

/-- The reasons in the order R163 lists those of the event. -/
def MoveReason.octet (r : MoveReason) (ev : MoveEvent) : Nat :=
  match ev with
  | .reversed => if r = .abort then 0 else 1
  | _ => match r with
    | .unitLost => 0 | .undefined => 1 | .hold => 2 | .capacity => 3 | .noise => 4 | .plan => 5 | .abort => 6

def MoveSource.octet : MoveSource → Nat
  | .auto => 0 | .plan => 1 | .venue => 2

/-- A MOVE notice (R163); the four octets of its detail are a choice of notes/assumptions/22.md. -/
def State.moveNotice (s : State) (u : UnitId) (ev : MoveEvent) (reason : Option MoveReason) (source : MoveSource)
    (origin target : Home) (p depth detail : Nat) : State :=
  s.post .move ([.o1 u.val] ++ Fld.unit u ++ [.o1 ev.octet] ++ Fld.opt (reason.map fun r => .o1 (r.octet ev)) ++
    [.o1 source.octet, .o1 (homeNum origin), .o1 (homeNum target), .o2 p, .o2 depth, .o4 detail, .word s.fu.clock])

/-- The MOVE notice DROPPED of a queue entry. -/
def State.entryDropped (s : State) (reason : MoveReason) (detail : Nat) (e : QueueEntry) : State :=
  s.moveNotice e.unit .dropped (some reason) e.source e.origin e.target 0 0 detail

/-- The MOVE notice of a unit's blend. -/
def State.blendNotice (s : State) (u : UnitId) (b : Blend) (ev : MoveEvent) (reason : Option MoveReason) (detail : Nat) : State :=
  s.moveNotice u ev reason b.source (s.home u) b.target b.p b.depth detail

/-! ### The queue (R147, R161) -/

/-- The queue is written; the retry timer stops when it becomes empty (R152, R161). -/
def State.setQueue (s : State) (q : List QueueEntry) : State :=
  s.updMe fun m => { m with queue := q, retry := if q.isEmpty then none else m.retry }

/-- An entry joins at the tail. -/
def State.enqueue (s : State) (u : UnitId) (target : Home) (source : MoveSource) (force : Bool) : State :=
  s.updMe fun m => { m with queue := m.queue ++
    [{ unit := u, origin := s.home u, target := target, source := source, force := force, deferrals := 0, time := s.fu.clock }] }

/-- Entries are removed, each with a MOVE notice DROPPED, in queue order (R161). -/
def State.removeEntries (s : State) (sel : QueueEntry → Bool) (reason : MoveReason) : State :=
  (s.me.queue.filter sel).foldl (fun s e => s.entryDropped reason 0 e) (s.setQueue (s.me.queue.filter fun e => !sel e))

/-! ### The start pass (R150 to R153) -/

/-- The outcome of judging an entry. -/
inductive Judgment | drop (reason : MoveReason) (detail : Nat) | defer | start
  deriving DecidableEq, Repr

/-- The target is a zone 1 to 24 that is not defined. -/
def State.undefinedTarget (s : State) (t : Home) : Bool := t.any fun z => !(s.zone z).defined

/-- The target is not zone 0 and its live member count is 16 (R151 check 4). -/
def State.full (s : State) (t : Home) : Bool := t.any fun z => Config.zoneCapacity ≤ s.liveCount z

/-- The source is bound by holds (R144, R151 check 3). -/
def QueueEntry.bound (e : QueueEntry) : Bool :=
  match e.source with
  | .auto => true
  | .venue => !e.force
  | .plan => false

/-- The detail of an entry into a full target that is dropped: its live member count. -/
def State.targetCount (s : State) (t : Home) : Nat := (t.map s.liveCount).getD 0

/-- The admission prediction of an entry: passed for every source but AUTO, and for zone 0 (R151 check 5). -/
def State.predict (s : State) (e : QueueEntry) : Admission :=
  match e.source, e.target with
  | .auto, some z => s.admission e.unit z
  | _, _ => .pass

/-- The judgment of a head entry (R151, R152). -/
def State.judge (s : State) (e : QueueEntry) : Judgment :=
  if !s.serving e.unit then .drop .unitLost 0
  else if s.undefinedTarget e.target then .drop .undefined 0
  else if e.bound && (s.isHeld e.origin || s.isHeld e.target) then .drop .hold 0
  else if s.full e.target then (if e.deferrals < 3 then .defer else .drop .capacity (s.targetCount e.target))
  else match s.predict e with
    | .pass => .start
    | .noise f => .drop .noise f.val
    | .power => .drop .noise 255

/-- The blend of an entry that starts (R153). -/
def State.newBlend (s : State) (e : QueueEntry) : Blend :=
  { target := e.target, p := 0, depth := s.me.params.depth, step := s.me.params.step, reverse := false, source := e.source,
    timer := s.me.params.step }

/-- A blend starts (R153): record created, STARTED posted, the change of membership reported. -/
def startBlend (e : QueueEntry) (s : State) : Worked :=
  let before := s.zonesOf e.unit
  let b := s.newBlend e
  let s := (s.setBlend e.unit (some b)).blendNotice e.unit b .started none b.step
  (s, s.memberWork e.unit before)

/-- The head entry `e` has been judged; `rest` is the queue behind it. -/
def applyJudgment (e : QueueEntry) (rest : List QueueEntry) (j : Judgment) (s : State) : Worked :=
  match j with
  | .drop reason detail => ((s.setQueue rest).entryDropped reason detail e, [])
  | .defer => (s.setQueue (rest ++ [{ e with deferrals := e.deferrals + 1 }]), [])
  | .start => startBlend e (s.setQueue rest)

/-- The judgments of a pass: at most `n` of them, `deferred` holding the units deferred so far (R150). -/
def passLoop : Nat → List UnitId → Worked → Worked × List UnitId
  | 0, deferred, w => (w, deferred)
  | n + 1, deferred, w =>
    match w.1.me.queue with
    | [] => (w, deferred)
    | e :: rest =>
      if w.1.me.params.conc ≤ w.1.inFlight || deferred.contains e.unit then (w, deferred)
      else
        let j := w.1.judge e
        passLoop n (if j = .defer then e.unit :: deferred else deferred) (thenWork w (applyJudgment e rest j))

/-- The retry timer is started at D × T, unless it runs (R152). -/
def MigrationEngine.startRetry (m : MigrationEngine) : MigrationEngine :=
  { m with retry := if m.retry.isSome then m.retry else some (m.params.depth * m.params.step) }

/-- A start pass (R150): every entry is judged at most once; a deferral leaves the retry timer running (R152). -/
def startPass (s : State) : Worked :=
  let r := passLoop s.me.queue.length [] (s, [])
  if r.2.isEmpty then r.1 else (r.1.1.updMe (·.startRetry), r.1.2)

/-! ### Single reconcile (spec/07 R137) -/

/-- The home of a unit in the active plan. -/
def State.planHome (s : State) (u : UnitId) : Home := Vector.get s.activeBank.homes u

/-- The unit is neither queued nor blending and its live home differs from its plan home (R136). -/
def State.offPlan (s : State) (u : UnitId) : Bool :=
  !s.isQueued u && (s.blend u).isNone && s.home u ≠ s.planHome u

/-- In FIXED mode a SERVING unit off its plan home is enqueued (R137). -/
def State.reconcileOne (s : State) (u : UnitId) : State :=
  if s.activeBank.mode = .fixed && s.serving u && s.offPlan u then s.enqueue u (s.planHome u) .plan false else s

/-! ### Blends that step and end (R156 to R160) -/

/-- A blend ends: the home takes its value, the record is removed, the notice is posted, and the change of membership
reported. -/
def endBlend (u : UnitId) (b : Blend) (home : Home) (ev : MoveEvent) (reason : Option MoveReason) (s : State) : Worked :=
  let before := s.zonesOf u
  let s := ((s.blendNotice u b ev reason 0).setHome u home).setBlend u none
  (s, s.memberWork u before)

/-- A settle (R157): the reconcile of FIXED mode and then the start pass follow; its admission queries come before the
recomputation that the settle sets in motion, here and at every end of a blend (notes/assumptions/49.md). -/
def settleBlend (u : UnitId) (b : Blend) (s : State) : Worked :=
  thenWork (endBlend u { b with p := b.depth } b.target .settled none s) fun s => startPass (s.reconcileOne u)

/-- The end of a reversion (R158): the home stays; a start pass follows (notes/assumptions/49.md). -/
def revertBlend (u : UnitId) (b : Blend) (s : State) : Worked :=
  thenWork (endBlend u { b with p := 0 } (s.home u) .reverted none s) startPass

/-- A drop (R160): the home stays; a start pass follows (notes/assumptions/49.md). -/
def dropBlend (u : UnitId) (b : Blend) (s : State) : Worked :=
  thenWork (endBlend u b (s.home u) .dropped (some .unitLost) s) startPass

/-- A FORWARD blend turns REVERSE (R159); at p = 0 its reversion ends at once. -/
def reverseBlend (u : UnitId) (b : Blend) (reason : MoveReason) (s : State) : Worked :=
  let b' := { b with reverse := true }
  let s := (s.setBlend u (some b')).blendNotice u b' .reversed (some reason) 0
  thenWork (s, s.unitWork u) fun s => if b.p = 0 then revertBlend u b' s else (s, [])

/-- A step of a blend (R156, R158). -/
def stepBlend (u : UnitId) (b : Blend) (s : State) : Worked :=
  if b.reverse then
    if b.p ≤ 1 then revertBlend u b s
    else
      let s := s.setBlend u (some { b with p := b.p - 1, timer := b.step })
      (s, s.unitWork u)
  else if b.depth ≤ b.p + 1 then settleBlend u b s
  else
    let s := s.setBlend u (some { b with p := b.p + 1, timer := b.step })
    (s, s.unitWork u)

/-- A unit has left SERVING: its blend is dropped (R160). -/
def leaveServing (u : UnitId) (s : State) : Worked :=
  match s.blend u with
  | some b => dropBlend u b s
  | none => (s, [])

/-- Units have entered FAILED or ABSENT: their queue entries are removed, in queue order (R161, R163). -/
def State.loseEntries (s : State) (units : List UnitId) : State := s.removeEntries (·.unit ∈ units) .unitLost

def execBlendStepExpiry (u : UnitId) (s : State) : Out :=
  .next (s.unheld fun s => match s.blend u with
    | some b => settle (stepBlend u b s)
    | none => s)

def execRetryTimerExpiry (s : State) : Out :=
  .next (s.unheld fun s =>
    if s.me.retry.isSome then settle (startPass (s.updMe fun m => { m with retry := none })) else s)

/-! ### MOVE and MOVE_ABORT (R148, R149) -/

/-- The first held zone of a move with its owner, the home before the target. -/
def State.heldOf (s : State) (home target : Home) : Option (ZoneId × Issuer) :=
  (home.toList ++ target.toList).findSome? fun z => (s.holdOf z).map (z, ·)

/-- The zone is in the unit's eligible set. -/
def State.eligibleFor (s : State) (u : UnitId) (z : ZoneId) : Bool := (s.unit u).eligible.getLsbD z.val

/-- A target number 0 to 24. -/
def targetOf (n : Nat) : Option Home := if n = 0 then some none else (zoneOf n).map some

/-- MOVE (R148). -/
def State.move (s : State) (h : Hdr) (unit : UnitRef) (target : Nat) (force : Option Bool) : State :=
  match unitOfRef unit, targetOf target, force with
  | some u, some t, some force =>
    if s.activeBank.mode = .fixed then s.reply 0x24 h .layoutFixed
    else if s.undefinedTarget t then s.reply 0x24 h .notDefined [.o1 (homeNum t)]
    else if Config.queueCapacity ≤ s.me.queue.length then s.reply 0x24 h .queueFull
    else if s.isQueued u then s.reply 0x24 h .inUse [.o1 0]
    else if (s.blend u).isSome then s.reply 0x24 h .inUse [.o1 1]
    else if t = s.home u then s.reply 0x24 h .badValue
    else match if force then none else s.heldOf (s.home u) t with
      | some (z, owner) => s.reply 0x24 h .held [.o1 (zoneNum z), .o1 (issuerNum owner)]
      | none =>
        if !force && t.any (!s.eligibleFor u ·) then s.reply 0x24 h .notEligible
        else
          let s := s.enqueue u t .venue force
          settle (startPass (s.reply 0x24 h .done [.o1 s.me.queue.length]))
  | _, _, _ => s.reply 0x24 h .badValue

def execMove (h : Hdr) (unit : UnitRef) (target : Nat) (force : Option Bool) (s : State) : Out :=
  .next (s.take (.move h unit target force) h 0x24 .venue (·.move h unit target force))

/-- MOVE_ABORT (R149). -/
def State.moveAbort (s : State) (h : Hdr) (unit : UnitRef) : State :=
  match unitOfRef unit with
  | none => s.reply 0x25 h .badValue
  | some u =>
    if s.isQueued u then (s.removeEntries (·.unit = u) .abort).reply 0x25 h .done
    else match s.blend u with
      | none => s.reply 0x25 h .none
      | some b => if b.reverse then s.reply 0x25 h .done else State.answer (reverseBlend u b .abort s) 0x25 h .done

def execMoveAbort (h : Hdr) (unit : UnitRef) (s : State) : Out :=
  .next (s.take (.moveAbort h unit) h 0x25 .venue (·.moveAbort h unit))

/-! ### SPREAD_SET (R164) and the working flag (spec/06 R119) -/

/-- The balance interval in milliseconds. -/
def State.balanceMs (s : State) : Nat := 1000 * s.me.params.balance

/-- The Spread Engine is to work: auto-spread is on and the active plan is SEED (spec/06 R119). -/
def State.mayWork (s : State) : Bool := s.me.params.auto && s.activeBank.mode = .seed

/-- The working flag is formed again: becoming working starts the balance timer, ceasing stops it (spec/06 R119). -/
def State.respread (s : State) : State :=
  if s.mayWork = s.se.working then s
  else if s.mayWork then s.updSe fun e => { e with working := true, timer := some s.balanceMs }
  else s.updSe fun e => { e with working := false, timer := none, named := [] }

/-- An optional field within a range. -/
def within (lo hi : Nat) (x : Option Nat) : Bool := x.all fun n => lo ≤ n && n ≤ hi

/-- SPREAD_SET (R164); one that carries no field changes nothing (notes/assumptions/52.md), and BAD_VALUE comes before BUSY
(notes/assumptions/57.md). -/
def State.spreadSet (s : State) (h : Hdr) (auto : Option (Option Bool)) (conc depth step balance : Option Nat) : State :=
  if auto = some none || !within 1 8 conc || !within 4 30 depth || !within 20 2000 step || !within 2 120 balance then
    s.reply 0x26 h .badValue
  else if conc.any (· < s.inFlight) then s.reply 0x26 h .busy [.o1 s.inFlight]
  else
    let old := s.me.params
    let s := s.updMe fun m => { m with params :=
      { auto := (auto.getD none).getD old.auto, conc := conc.getD old.conc, depth := depth.getD old.depth,
        step := step.getD old.step, balance := balance.getD old.balance } }
    let s := s.respread
    State.answer (if old.conc < s.me.params.conc then startPass s else (s, [])) 0x26 h .done

def execSpreadSet (h : Hdr) (auto : Option (Option Bool)) (conc depth step balance : Option Nat) (s : State) : Out :=
  .next (s.take (.spreadSet h auto conc depth step balance) h 0x26 .venue (·.spreadSet h auto conc depth step balance))

/-! ### QUEUE_READ (R165) -/

/-- The spread parameters as fields. -/
def SpreadParams.fields (p : SpreadParams) : List Fld := [.flag p.auto, .o2 p.conc, .o2 p.depth, .o2 p.step, .o2 p.balance]

/-- Unit index and L.P: the index in one octet (notes/assumptions/50.md). -/
def indexAndUnit (u : UnitId) : List Fld := .o1 u.val :: Fld.unit u

/-- An entry of the queue as QUEUE_READ returns it (R165); its deferrals are a count (R152, R202). -/
def QueueEntry.fields (e : QueueEntry) : List Fld :=
  indexAndUnit e.unit ++ [.o1 (homeNum e.origin), .o1 (homeNum e.target), .o1 e.source.octet, .flag e.force,
    .o1 e.deferrals, .word e.time]

/-- The units with a blend record, in unit index order. -/
def State.blending (s : State) : List (UnitId × Blend) := (indices 48).filterMap fun u => (s.blend u).map (u, ·)

/-- FORWARD is 00h, REVERSE 01h. -/
def Blend.fields (b : Blend) (home : Home) (u : UnitId) : List Fld :=
  indexAndUnit u ++ [.o1 (homeNum home), .o1 (homeNum b.target), .o2 b.p, .o2 b.depth, .o2 b.step,
    .o1 (if b.reverse then 1 else 0), .o1 b.source.octet, .o2 b.timer]

/-- QUEUE_READ (R165). -/
def State.queueRead (s : State) (h : Hdr) : State :=
  s.reply 0x27 h .done (s.me.params.fields ++ [.o1 s.inFlight, .o1 s.me.queue.length] ++
    Fld.opt (s.me.retry.map Fld.o2) ++ Fld.list QueueEntry.fields s.me.queue ++
    Fld.list (fun ub => ub.2.fields (s.home ub.1) ub.1) s.blending)

def execQueueRead (h : Hdr) (s : State) : Out := .next (s.take (.queueRead h) h 0x27 .any (·.queueRead h))

end Sys2Proof.Machine
end

