-- ==== Sys2Proof/Machine/Units.lean ====
section
/-! DEFINITION. Unit state changes and the link-down report (spec/04 R82, R83, spec/03 R52), survey outcomes, and the
requests of the Unit Manager (spec/04). LINK notices stand here for the survey's end. -/

namespace Sys2Proof.Machine

/-! ### LINK notices (spec/03 R58) -/

inductive LinkCause
  | enable | preambleEnd | aligned | numbered | numberFail | surveyDone | alignLost | chainReset | loopbackOn | loopbackOff
  | restart | disable
  deriving DecidableEq, Repr

def LinkCause.octet : LinkCause → Nat
  | .enable => 0 | .preambleEnd => 1 | .aligned => 2 | .numbered => 3 | .numberFail => 4 | .surveyDone => 5
  | .alignLost => 6 | .chainReset => 7 | .loopbackOn => 8 | .loopbackOff => 9 | .restart => 10 | .disable => 11

def LinkState.octet : LinkState → Nat
  | .off => 0 | .preamble => 1 | .aligning => 2 | .numbering => 3 | .survey => 4 | .running => 5 | .loopback => 6

/-- The LINK notice of a link as it stands (R58); the generation takes one octet (notes/assumptions/22.md). -/
def State.linkNotice (s : State) (l : LinkId) (cause : LinkCause) : State :=
  let r := s.link l
  s.post .link ([.o1 l.val, .o1 r.state.octet, .o1 r.generation] ++ Fld.opt (r.chain.map Fld.o1) ++ [.o1 cause.octet])

/-! ### UNIT notices and what a change of state sets in motion (R82) -/

inductive UnitCause | surveyed | surveyFail | configured | restarted | silent | recovered | linkDown
  deriving DecidableEq, Repr

def UnitCause.octet : UnitCause → Nat
  | .surveyed => 0 | .surveyFail => 1 | .configured => 2 | .restarted => 3 | .silent => 4 | .recovered => 5 | .linkDown => 6

def UnitState.octet : UnitState → Nat
  | .absent => 0 | .configuring => 1 | .serving => 2 | .failed => 3

/-- The UNIT notice of a unit as it stands (R82). -/
def State.unitNotice (s : State) (u : UnitId) (cause : UnitCause) : State :=
  s.post .unit (indexAndUnit u ++ [.o1 (s.unit u).state.octet, .o1 cause.octet])

/-- In FIXED mode a unit that enters SERVING is reconciled; an entry enqueued is followed by a start pass (R82, spec/07
R137, spec/08 R150). -/
def enterServing (u : UnitId) (s : State) : Worked :=
  let s' := s.reconcileOne u
  if s'.me.queue.length = s.me.queue.length then (s', []) else startPass s'

/-- What a unit's change from the state `was` does apart from the queue: the Level Engine works, and a unit that was SERVING
is measured no more and drops its blend (R82). -/
def unitLeft (u : UnitId) (was : UnitState) (s : State) : Worked :=
  let s := if was = .serving then s.updMeasure u fun m => { m with measuring := false } else s
  let w : Worked := (s, s.unitWork u)
  if was = .serving then thenWork w (leaveServing u) else w

/-- The blocks told of a unit's change of state from `was` act on it (R82): the Level Engine, the Load Monitor, the
Migration Engine and the Plan Store. -/
def unitChanged (u : UnitId) (was : UnitState) (s : State) : Worked :=
  let now := (s.unit u).state
  if now = was then (s, [])
  else
    let w := unitLeft u was s
    let w := if now = .failed || now = .absent then (w.1.loseEntries [u], w.2) else w
    if now = .serving then thenWork w (enterServing u) else w

/-! ### Conditions of the Unit Manager -/

/-- UNIT_SILENT is judged (R62 note 3). -/
def judgeSilent (u : UnitId) (now : Bool) (detail : Word) (s : State) : Worked :=
  reportChange .unitSilent (.unit u) (s.unit u).view.silent now detail
    (s.updUnit u fun r => { r with view := { r.view with silent := now } })

/-- The detail of a UNIT_SILENT that becomes inactive, which no rule states (notes/assumptions/13.md). -/
def silentCleared (u : UnitId) : Word := Config.unstatedDetail FaultKind.unitSilent.code u.val

/-- The three lasting alarms of a STATUS reply are judged in order (R78). -/
def judgeAlarms (u : UnitId) (a : Alarms) (temp : Int) (s : State) : Worked :=
  let v := (s.unit u).view
  let s := s.updUnit u fun r => { r with view := { r.view with paHot := a.paHot, vswr := a.vswr, supply := a.supply } }
  thenWork (thenWork (reportChange .unitPaHot (.unit u) v.paHot a.paHot (BitVec.ofInt 32 temp) s)
    (reportChange .unitVswr (.unit u) v.vswr a.vswr 0)) (reportChange .unitSupply (.unit u) v.supply a.supply 0)

/-! ### The link-down report (R83, spec/03 R52) -/

/-- A record that becomes ABSENT (R83). -/
def UnitRec.lost (r : UnitRec) : UnitRec :=
  { r with state := .absent, identity := none, mask := 0, configured := none, configDue := false, configFailed := false,
           pollDue := false, pollTimer := none, missCount := 0, temperature := none, view := {} }

/-- A unit that is not ABSENT becomes so: conditions reported inactive, and its UNIT notice posted (R83, spec/09 R167). The
details are choices: UNIT_PA_HOT carries the last temperature and BAND_UNSUPPORTED 0, the set after the loss
(notes/assumptions/13.md, 40.md). -/
def loseUnit (u : UnitId) (s : State) : Worked :=
  let v := (s.unit u).view
  let temperature := ((s.unit u).temperature.map (BitVec.ofInt 32)).getD (Config.unstatedDetail FaultKind.unitPaHot.code u.val)
  let w := thenWork (reportChange .unitSilent (.unit u) v.silent false (silentCleared u) (s.updUnit u (·.lost)))
    (reportChange .unitPaHot (.unit u) v.paHot false temperature)
  let w := thenWork (thenWork w (reportChange .unitVswr (.unit u) v.vswr false 0))
    (reportChange .unitSupply (.unit u) v.supply false 0)
  let w := thenWork w (reportChange .bandUnsupported (.unit u) v.bandUnsupported false 0)
  (w.1.unitNotice u .linkDown, w.2)

/-- The fields of a relay's reply: its data words as a list, with its entry count also where there is one word of ones, or
none (notes/assumptions/43.md). -/
def relayFields (words : List Word) : List Fld := Fld.list (fun w => [.word w]) words

/-- The one data word of an ABSENT relay reply. -/
def absentWord : Word := 0xFFFFFFFF

/-- The transaction outstanding on a link ends without a result; a relay is answered ABSENT (R52). -/
def State.endTxn (s : State) (l : LinkId) : State :=
  let s' := s.updArbiter l fun a => { a with txn := none }
  match (s.arbiter l).txn.map Txn.requester with
  | some (Requester.relay tag) => s'.relayReply tag .absent (relayFields [absentWord])
  | _ => s'

/-- The relay queue is answered LINK_STATE in queue order and emptied (R52). -/
def State.endRelays (s : State) (l : LinkId) : State :=
  (s.arbiter l).relays.foldl (fun s e => s.relayReply e.tag .linkState [])
    (s.updArbiter l fun a => { a with relays := [], toSurvey := [] })

/-- The link-down report (R52): transaction, relay queue, then every unit that was not ABSENT, in position order, each with its
reports and UNIT notice, then their blends, in unit index order, and at last their queue entries, in queue order (spec/08 R163).
That the UNIT notices of all come before the first MOVE notice, and the blends before the entries, follows the text of R52 and is
the choice of notes/assumptions/16.md. -/
def linkDown (l : LinkId) (s : State) : Worked :=
  let lost := ((unitsOf l).map fun u => (u, (s.unit u).state)).filter fun e => e.2 ≠ .absent
  let s := (s.endTxn l).endRelays l
  let w := thenWork (eachWork lost (fun e => loseUnit e.1) s) (eachWork lost fun e => unitLeft e.1 e.2)
  (w.1.loseEntries (lost.map (·.1)), w.2)

/-! ### Survey (R70 to R73) -/

/-- A control transaction begins: its first attempt. -/
def newTxn (r : Requester) (k : TxnKind) (target : Option PosId) (data : List ReqData) : Txn :=
  { requester := r, kind := k, target := target, data := data }

/-- The survey goes to its next position, or ends and the link becomes RUNNING (R70, R51 of spec/03). -/
def State.surveyNext (s : State) (l : LinkId) : State :=
  match (s.arbiter l).toSurvey with
  | p :: rest => s.updArbiter l fun a => { a with txn := some (newTxn .survey .ident (some p) []), toSurvey := rest }
  | [] => (s.updLink l fun r => { r with state := .running }).linkNotice l .surveyDone

/-- Positions above the count that hold UNIT_SILENT have it made inactive (R70). -/
def clearUncounted (l : LinkId) (n : Nat) (s : State) : Worked :=
  eachWork ((indices 4).filter fun p => n ≤ p.val) (fun p => judgeSilent (unitAt l p) false (silentCleared (unitAt l p))) s

/-- The survey of positions 1 to min(n, 4) begins (R70). -/
def beginSurvey (l : LinkId) (n : Nat) (s : State) : Worked :=
  let w := clearUncounted l n s
  ((w.1.updArbiter l fun a => { a with toSurvey := (indices 4).filter fun p => p.val < n }).surveyNext l, w.2)

/-- The identity record of an IDENT reply's data words (R72). -/
def identityOf : List DataWord → Option Identity
  | .typeCode t :: .serial w :: .power m :: rest =>
    let ranges := rest.filterMap fun d => match d with | .range lo hi => some (lo, hi) | _ => none
    if ranges.length = rest.length then some ⟨t, w, m, ranges⟩ else none
  | _ => none

/-- A record is valid (R72). -/
def Identity.valid (i : Identity) : Bool :=
  1 ≤ i.typeCode && i.typeCode ≤ 254 && i.power ≤ 400 && 1 ≤ i.ranges.length && i.ranges.length ≤ 4 &&
    i.ranges.all fun r => r.1 < r.2 && 100 ≤ r.1 && r.2 ≤ 7000

/-- The valid identity record of an IDENT reply. -/
def validIdentity (l : List DataWord) : Option Identity := (identityOf l).filter (·.valid)

/-- A record that has been identified (R71). -/
def UnitRec.identified (r : UnitRec) (i : Identity) (mask : BitVec 8) (interval : Nat) : UnitRec :=
  { r with state := .configuring, identity := some i, mask := mask, lastSerial := i.serial, missCount := 0,
           configured := none, configDue := true, configFailed := false, pollTimer := some interval }

/-- The outcome of the IDENT transaction of a position (R71): identified, with the replaced-unit check of R73, or
silent. -/
def identOutcome (u : UnitId) (id : Option Identity) (s : State) : Worked :=
  match id with
  | some i =>
    let r := s.unit u
    let s := s.updUnit u fun r => r.identified i (bandMask (some i) s.tu.bands) s.um.pollInterval
    let w := if r.lastSerial ≠ 0 && r.lastSerial ≠ i.serial then report .unitReplaced (.unit u) .occurred i.serial s else (s, [])
    let w := thenWork w (judgeSilent u false (silentCleared u))
    let w := thenWork (w.1.unitNotice u .surveyed, w.2) (unitChanged u r.state)
    (w.1, w.2 ++ [.bands u])
  | none =>
    let w := judgeSilent u true 1 s
    (w.1.unitNotice u .surveyFail, w.2)

/-! ### Requests (R77, R85 to R87, R89) -/

/-- POLL_SET (R77). -/
def State.pollSet (s : State) (h : Hdr) (interval : Nat) : State :=
  if 100 ≤ interval && interval ≤ 5000 then (s.updUm fun m => { m with pollInterval := interval }).reply 0x16 h .done
  else s.reply 0x16 h .badValue

def execPollSet (h : Hdr) (interval : Nat) (s : State) : Out :=
  .next (s.take (.pollSet h interval) h 0x16 .venue (·.pollSet h interval))

/-- The combiners of the feeds routed to a zone of the unit, where its attenuation has changed (R86, spec/05 R103). -/
def State.attenWork (s : State) (u : UnitId) (before : Nat) : List Work :=
  if (s.unit u).atten = before then [] else (s.feedsAt (s.zonesOf u)).map .combiner

/-- A threshold of R86. -/
def thresholdOk (x : Option Int) : Bool := x.all fun t => -900 ≤ t && t ≤ 0

/-- An eligible set drawn from Z1 to Z24 (R86). -/
def eligibleOk (x : Option (BitVec 32)) : Bool := x.all fun e => e.toNat < 2 ^ 24

/-- UNIT_SET (R86); one that carries no field changes nothing (notes/assumptions/52.md). -/
def State.unitSet (s : State) (h : Hdr) (unit : UnitRef) (atten : Option Nat) (threshold : Option Int)
    (eligible : Option (BitVec 32)) : State :=
  match unitOfRef unit with
  | none => s.reply 0x17 h .badValue
  | some u =>
    if !within 0 63 atten || !thresholdOk threshold || !eligibleOk eligible then s.reply 0x17 h .badValue
    else
      let before := (s.unit u).atten
      let s := s.updUnit u fun r =>
        { r with atten := atten.getD r.atten, threshold := threshold.getD r.threshold,
                 eligible := (eligible.map (·.setWidth 24)).getD r.eligible }
      State.answer (s, s.attenWork u before) 0x17 h .done

def execUnitSet (h : Hdr) (unit : UnitRef) (atten : Option Nat) (threshold : Option Int) (eligible : Option (BitVec 32))
    (s : State) : Out :=
  .next (s.take (.unitSet h unit atten threshold eligible) h 0x17 .venue (·.unitSet h unit atten threshold eligible))

/-- UNIT_MUTE writes ISSUER_MUTE in every state of the unit (R85). -/
def State.unitMute (s : State) (h : Hdr) (unit : UnitRef) (on : Bool) : State :=
  match unitOfRef unit with
  | none => s.reply 0x18 h .badValue
  | some u => State.answer (muteUnit u (fun m => { m with issuerMute := on }) s) 0x18 h .done

def execUnitMuteOn (h : Hdr) (unit : UnitRef) (s : State) : Out :=
  .next (s.take (.unitMuteOn h unit) h 0x18 .venue (·.unitMute h unit true))

def execUnitMuteOff (h : Hdr) (unit : UnitRef) (s : State) : Out :=
  .next (s.take (.unitMuteOff h unit) h 0x18 .venue (·.unitMute h unit false))

/-- The position of a relay: 1 to 4, or "all". -/
def relayTarget : NumSel → Option (Option PosId)
  | .all => some none
  | .one n => if h : 1 ≤ n ∧ n ≤ 4 then some (some ⟨n - 1, by omega⟩) else none

/-- The single position addressed holds an ABSENT unit (R87 check 3). -/
def State.targetAbsent (s : State) (l : LinkId) (target : Option PosId) : Bool :=
  target.any fun p => (s.unit (unitAt l p)).state = .absent

/-- UNIT_RELAY (R87): an accepted relay is owed its reply. -/
def State.unitRelay (s : State) (h : Hdr) (link : Nat) (pos : NumSel) (payload : List Word) : State :=
  match numOf 12 link, relayTarget pos with
  | some l, some target =>
    if payload.length < 1 || 16 < payload.length then s.reply 0x19 h .badValue
    else if (s.link l).state ≠ .running then s.reply 0x19 h .linkState
    else if s.targetAbsent l target then s.reply 0x19 h .absent (relayFields [absentWord])
    else if Config.relayCapacity ≤ (s.arbiter l).relays.length then s.reply 0x19 h .queueFull
    else (s.updArbiter l fun a => { a with relays := a.relays ++ [⟨h.tag, target, payload⟩] }).updMp fun m =>
      { m with owed := m.owed + 1 }
  | _, _ => s.reply 0x19 h .badValue

def execUnitRelay (h : Hdr) (link : Nat) (pos : NumSel) (payload : List Word) (s : State) : Out :=
  .next (s.take (.unitRelay h link pos payload) h 0x19 .venue (·.unitRelay h link pos payload))

/-! ### UNIT_READ (R89, spec/10 R204) -/

/-- The identity record as the host sees it: 24 octets (spec/10 R204). -/
def identityFields : Option Identity → List Fld
  | none => [.o1 0, .o1 0, .o2 0, .o4 0xFFFFFFFF] ++ List.replicate 8 (.o2 0)
  | some i => [.o1 i.typeCode, .o1 i.ranges.length, .o2 i.power, .word i.serial] ++
      ((i.ranges ++ List.replicate 4 (0, 0)).take 4).flatMap fun (r : Nat × Nat) => [Fld.o2 r.1, Fld.o2 r.2]

/-- The condition view of a unit in one octet, a bit for each condition in the order R62 lists them
(notes/assumptions/45.md). -/
def UnitView.bits (v : UnitView) : Nat := Machine.bits [v.silent, v.paHot, v.vswr, v.supply, v.bandUnsupported]

/-- The mute reasons of a unit, in the order R62 lists them. -/
def UnitMutes.bits (m : UnitMutes) : Nat := Machine.bits [m.faultAction, m.faultLatch, m.linkAction, m.issuerMute]

/-- A blend record as UNIT_READ returns it, or its absence (spec/08 R146). -/
def blendFields : Option Blend → List Fld
  | none => [.o1 0]
  | some b => [.o1 1, .o1 (homeNum b.target), .o2 b.p, .o2 b.depth, .o2 b.step, .o1 (if b.reverse then 1 else 0),
      .o1 b.source.octet, .o2 b.timer]

/-- The fields of a unit (R89). The temperature takes two octets, signed (notes/assumptions/44.md). -/
def State.unitFields (s : State) (u : UnitId) : List Fld :=
  let r := s.unit u
  indexAndUnit u ++ [.o1 r.state.octet, .o1 r.view.bits] ++ identityFields r.identity ++
    [.word r.lastSerial, .o1 r.mask.toNat, .o1 r.wanted.toNat, .o1 (r.configured.getD 0).toNat, .flag r.configDue,
     .o2 r.atten, .i2 r.threshold, .o4 r.eligible.toNat, .o1 r.mutes.bits, .o1 r.missCount] ++
    Fld.opt (r.temperature.map Fld.i2) ++ [.o1 (homeNum (s.home u))] ++ blendFields (s.blend u) ++ [.o2 (s.measure u).estimate]

/-- UNIT_READ (R89). -/
def State.unitRead (s : State) (h : Hdr) (sel : UnitSel) : State :=
  let answer (us : List UnitId) := s.reply 0x1A h .done (Fld.list s.unitFields us)
  match sel with
  | .all => answer (indices 48)
  | .link n => match numOf 12 n with
    | some l => answer (unitsOf l)
    | none => s.reply 0x1A h .badValue
  | .unit r => match unitOfRef r with
    | some u => answer [u]
    | none => s.reply 0x1A h .badValue

def execUnitRead (h : Hdr) (sel : UnitSel) (s : State) : Out :=
  .next (s.take (.unitRead h sel) h 0x1A .any (·.unitRead h sel))

end Sys2Proof.Machine
end

