-- ==== Sys2Proof/Machine/Channel.lean ====
section
/-! DEFINITION. The control channel (spec/04 R64 to R81, R88): the arbiter, words sent, echoes, reply words, attempts, and
the outcomes of configuration, polling and relay. -/

namespace Sys2Proof.Machine

/-! ### Outcomes -/

/-- Config due is set, and config failed falls with it (R75). -/
def UnitRec.setConfigDue (r : UnitRec) : UnitRec := { r with configDue := true, configFailed := false }

/-- The unit is configured for: CONFIGURING or SERVING. -/
def UnitRec.configurable (r : UnitRec) : Bool := r.state = .configuring || r.state = .serving

/-- The configured band set of a SERVING unit changes: the window in progress has had the set `old` so far (spec/06 R112). -/
def State.changedSet (s : State) (u : UnitId) (old : BitVec 8) : State :=
  s.updMeasure u fun m => { m with earlierSets := m.earlierSets ++ [old] }

/-- A CONFIG is done (R75): a CONFIGURING unit becomes SERVING. -/
def configDone (u : UnitId) (sent : BitVec 8) (s : State) : Worked :=
  let r := s.unit u
  let s := s.updUnit u fun r => { r with configured := some sent }
  let s := if r.state = .serving then s.changedSet u (r.configured.getD 0) else s
  if r.state = .configuring then
    let s := s.updUnit u fun r =>
      let r := { r with state := .serving }
      if r.wanted ≠ sent then r.setConfigDue else r
    unitChanged u r.state (s.unitNotice u .configured)
  else if r.state = .serving && r.wanted ≠ sent then (s.updUnit u (·.setConfigDue), [])
  else (s, [])

/-- A CONFIG has failed (R75). -/
def State.configLost (s : State) (u : UnitId) : State :=
  if (s.unit u).configurable then s.updUnit u fun r => { r with configFailed := true } else s

/-- Alarms and temperature of a STATUS reply; free values where the data are not one status word (R78,
notes/assumptions/12.md). -/
def statusOf : List DataWord → Alarms × Int
  | [.status a t] => (a, t)
  | l => (Config.statusAlarms l, (Config.statusTemp l).toInt)

/-- RESTARTED in a reply is reported, and the unit has lost its configuration (R79). -/
def judgeRestart (u : UnitId) (a : Alarms) (temp : Int) (s : State) : Worked :=
  if a.restarted then
    report .unitRestarted (.unit u) .occurred (BitVec.ofInt 32 temp)
      (s.updUnit u fun r => { r.setConfigDue with configured := none })
  else (s, [])

/-- A poll is done (R78, R79, R81): a FAILED unit recovers, a SERVING unit that has restarted becomes CONFIGURING. -/
def statusDone (u : UnitId) (data : List DataWord) (s : State) : Worked :=
  let (a, temp) := statusOf data
  let was := (s.unit u).state
  let unpolled := s
  let s := s.updUnit u fun r => { r with missCount := 0, temperature := some temp, pollTimer := some s.um.pollInterval }
  match was with
  | .absent => (unpolled, [])
  | .failed =>
    let w := thenWork (thenWork (judgeSilent u false (silentCleared u) s) (judgeAlarms u a temp)) (judgeRestart u a temp)
    let s := w.1.updUnit u fun r => { r.setConfigDue with configured := none, state := .configuring }
    thenWork (s.unitNotice u .recovered, w.2) (unitChanged u was)
  | .serving =>
    let w := thenWork (judgeAlarms u a temp s) (judgeRestart u a temp)
    if a.restarted then
      let s := w.1.updUnit u fun r => { r with state := .configuring }
      thenWork (s.unitNotice u .restarted, w.2) (unitChanged u was)
    else w
  | .configuring => thenWork (judgeAlarms u a temp s) (judgeRestart u a temp)

/-- A poll has failed (R80): at the third in a row the unit becomes FAILED. -/
def statusFailed (u : UnitId) (s : State) : Worked :=
  let was := s.unit u
  let misses := min 3 (was.missCount + 1)
  let s := s.updUnit u fun r => { r with missCount := misses, pollTimer := some s.um.pollInterval }
  if was.configurable && misses = 3 then
    let s := s.updUnit u fun r => { r with state := .failed, configDue := false }
    let w := judgeSilent u true 2 (s.unitNotice u .silent)
    thenWork w (unitChanged u was.state)
  else (s, [])

/-- A word of the relay reply as the host receives it (notes/assumptions/35.md). -/
def relayWord : DataWord → Word
  | .word w => w
  | d => Config.dataWordImage d

/-- A relay ends: DONE with the unit's words, also where its header counts more than 16 of them (notes/assumptions/55.md), or
ABSENT with one word of ones (R88). -/
def State.relayEnd (s : State) (tag : BitVec 16) (data : Option (List DataWord)) : State :=
  match data with
  | some d => s.relayReply tag .done (relayFields (d.map relayWord))
  | none => s.relayReply tag .absent (relayFields [absentWord])

/-- A transaction ends, done with reply data or failed; its requester handles the outcome (R68). -/
def finish (l : LinkId) (t : Txn) (data : Option (List DataWord)) (s : State) : Worked :=
  let s := s.updArbiter l fun a => { a with txn := none }
  match t.requester, t.target with
  | .survey, some p =>
    let w := identOutcome (unitAt l p) (data.bind validIdentity) s
    (w.1.surveyNext l, w.2)
  | .config sent, some p =>
    match data with
    | some _ => configDone (unitAt l p) sent s
    | none => (s.configLost (unitAt l p), [])
  | .poll, some p =>
    match data with
    | some d => statusDone (unitAt l p) d s
    | none => statusFailed (unitAt l p) s
  | .relay tag, _ => (s.relayEnd tag data, [])
  | _, none => (s, [])

/-! ### Attempts (R66 to R68) -/

/-- An attempt ends BUSY or as a miss: the next follows 1 ms later, or after the fourth the transaction fails (R68). -/
def retryTxn (l : LinkId) (t : Txn) (s : State) : Worked :=
  if t.attempt < 4 then
    (s.updArbiter l fun a => { a with txn := some { t with spacing := some 1, window := none } }, [])
  else finish l t none s

/-- Words of a request: its header and its data (R64). -/
def Txn.words (t : Txn) : Nat := t.data.length + 1

/-- The echo check has passed (R66). -/
def Txn.echoPassed (t : Txn) : Bool := t.echoed = t.words

/-- An attempt is in progress: it has not ended. -/
def Txn.active (t : Txn) : Bool := t.spacing.isNone

/-- Position 1 to 4, or "all", as a control word carries it. -/
def posNum (p : Option PosId) : Option Nat := p.map (·.val + 1)

/-- The word of an attempt, by its place: the header first (R64, R66); each carries the generation (R50 of spec/03). -/
def Txn.word (t : Txn) (l : LinkId) (gen : Nat) (n : Nat) : CtrlWord :=
  match n with
  | 0 => .reqHeader l.val (posNum t.target) gen t.attempt t.kind t.data.length
  | n + 1 => (t.data[n]?).elim (.idle gen) (.reqData gen)

/-- The attempt has ended with a reply: DONE, or BUSY; none while it has not (R67). An attempt to "all" ends when its echo
check has passed. An IDENT reply with a record that is not valid is a miss (R72), which ends the attempt when the reply is
complete and not at the window's end (notes/assumptions/42.md). -/
inductive AttemptEnd | done (data : List DataWord) | again
  deriving DecidableEq, Repr

def Txn.ended (t : Txn) : Option AttemptEnd :=
  if !t.echoPassed then none
  else if t.target.isNone then some (.done [])
  else match t.header with
    | none => none
    | some (busy, count) =>
      if t.replyData.length < count then none
      else if busy || (t.kind = .ident && (validIdentity t.replyData).isNone) then some .again
      else some (.done t.replyData)

/-- The transaction takes its new form, and ends its attempt where that form has ended it. -/
def advance (l : LinkId) (t : Txn) (s : State) : Worked :=
  match t.ended with
  | none => (s.updArbiter l fun a => { a with txn := some t }, [])
  | some (.done d) => finish l t (some d) s
  | some .again => retryTxn l t s

/-- A returning word of the request sorts is the echo of the oldest word not yet echoed; a difference abandons the attempt
and is reported (R66). -/
def echo (l : LinkId) (t : Txn) (word : CtrlWord) (s : State) : Worked :=
  if word = t.word l (s.link l).generation t.echoed then advance l { t with echoed := t.echoed + 1 } s
  else
    thenWork (report .chainEcho (.link l) .occurred (Config.ctrlWordImage word) s) (retryTxn l t)

/-- The word is of the request sorts. -/
def isRequestWord : CtrlWord → Bool
  | .reqHeader .. | .reqData .. => true
  | .idle _ | .number .. | .reply => false

/-- The attempt with a reply word taken: the first header, or a data word after it, up to the count (R67). A second header, and
a data word beside these, are ignored (notes/assumptions/55.md). -/
def Txn.takeReply (t : Txn) (part : ReplyPart) : Txn :=
  match part, t.header with
  | .header busy count, none => { t with header := some (busy, count) }
  | .data d, some (_, count) => if t.replyData.length < count then { t with replyData := t.replyData ++ [d] } else t
  | _, _ => t

/-- The reply word belongs to the attempt: its position and attempt number, while the window runs (R67). -/
def Txn.owns (t : Txn) (w : ReplyWord) : Bool :=
  t.active && t.window.isSome && posNum t.target = some w.pos && w.attempt = t.attempt

/-- The link carries transactions: SURVEY or RUNNING. -/
def LinkState.carries (st : LinkState) : Bool := st = .survey || st = .running

/-! ### The arbiter (R69) -/

/-- The units of a link with a property, in position order. -/
def State.positions (s : State) (l : LinkId) (p : UnitRec → Bool) : List PosId :=
  (indices 4).filter fun q => p (s.unit (unitAt l q))

/-- How long a unit's poll has been due. -/
def State.pollAge (s : State) (u : UnitId) : Nat := (s.fu.clock - (s.unit u).pollDueAt).toNat

/-- The position whose poll became due earliest, the lowest where several became due together (R69). -/
def State.nextPoll (s : State) (l : LinkId) : Option PosId :=
  (s.positions l (·.pollDue)).foldl
    (fun best p => match best with
      | none => some p
      | some b => if s.pollAge (unitAt l b) < s.pollAge (unitAt l p) then some p else some b)
    none

/-- The data words of a CONFIG: each slot of the set, in slot order, with its start and offset (R75). -/
def State.configData (s : State) (set : BitVec 8) : List ReqData :=
  (indices 8).filterMap fun b => if set.getLsbD b.val then (s.band b).map fun w => .band b.val w.start w.offset else none

def State.startConfig (s : State) (l : LinkId) (p : PosId) : State :=
  let set := (s.unit (unitAt l p)).wanted
  (s.updUnit (unitAt l p) fun r => { r with configDue := false }).updArbiter l fun a =>
    { a with txn := some (newTxn (.config set) .config (some p) (s.configData set)) }

def State.startPoll (s : State) (l : LinkId) (p : PosId) : State :=
  (s.updUnit (unitAt l p) fun r => { r with pollDue := false }).updArbiter l fun a =>
    { a with txn := some (newTxn .poll .status (some p) []), lastPoll := true }

def State.startRelay (s : State) (l : LinkId) (e : RelayEntry) : State :=
  s.updArbiter l fun a =>
    { a with txn := some (newTxn (.relay e.tag) .relay e.target (e.payload.map .word)), relays := a.relays.drop 1,
             lastPoll := false }

/-- The arbiter of a RUNNING link without a transaction starts the one that R69 chooses, if one waits. -/
def State.arbitrate (s : State) (l : LinkId) : State :=
  if (s.link l).state ≠ .running || (s.arbiter l).txn.isSome then s
  else match (s.positions l (·.configDue)).head? with
    | some p => s.startConfig l p
    | none => match (s.arbiter l).relays.head?, s.nextPoll l with
      | some e, some p => if (s.arbiter l).lastPoll then s.startRelay l e else s.startPoll l p
      | some e, none => s.startRelay l e
      | none, some p => s.startPoll l p
      | none, none => s

/-! ### The events -/

def execTransactionStart (l : LinkId) (s : State) : Out := .next (s.unheld (·.arbitrate l))

/-- REQUEST_WORD_SENT: the next word of the attempt goes out in the control slot; the last starts the 2 ms reply window
(R66, R67). -/
def State.sendWord (s : State) (l : LinkId) : State :=
  match (s.arbiter l).txn with
  | some t =>
    if t.active && t.sent < t.words then
      (s.updLink l fun r => { r with slot := some (t.word l r.generation t.sent) }).updArbiter l fun a =>
        { a with txn := some { t with sent := t.sent + 1, window := if t.sent + 1 = t.words then some 2 else t.window } }
    else s
  | none => s

def execRequestWordSent (l : LinkId) (s : State) : Out := .next (s.unheld (·.sendWord l))

/-- ECHO_RECEIVED (R66): words of other sorts, and words beyond those sent, are no echo. -/
def State.echoReceived (s : State) (l : LinkId) (word : CtrlWord) : State :=
  match (s.arbiter l).txn with
  | some t =>
    if (s.link l).state.carries && t.active && t.echoed < t.sent && isRequestWord word then settle (echo l t word s) else s
  | none => s

def execEchoReceived (l : LinkId) (word : CtrlWord) (s : State) : Out := .next (s.unheld (·.echoReceived l word))

/-- REPLY_WORD_RECEIVED (R50, R67): a stale generation is discarded, and so is a word of no attempt. -/
def State.replyReceived (s : State) (l : LinkId) (w : ReplyWord) : State :=
  match (s.arbiter l).txn with
  | some t =>
    if (s.link l).state.carries && w.gen = (s.link l).generation && t.owns w then
      settle (advance l (t.takeReply w.part) s)
    else s
  | none => s

def execReplyWordReceived (l : LinkId) (w : ReplyWord) (s : State) : Out := .next (s.unheld (·.replyReceived l w))

/-- REPLY_WINDOW_EXPIRY: the attempt is a miss (R67). -/
def State.windowExpired (s : State) (l : LinkId) : State :=
  match (s.arbiter l).txn with
  | some t => if t.active && t.window.isSome then settle (retryTxn l t s) else s
  | none => s

def execReplyWindowExpiry (l : LinkId) (s : State) : Out := .next (s.unheld (·.windowExpired l))

/-- The next attempt of a transaction: the same words with the attempt number raised by 1 (R68). -/
def Txn.nextAttempt (t : Txn) : Txn :=
  { t with attempt := t.attempt + 1, sent := 0, echoed := 0, header := none, replyData := [], window := none, spacing := none }

/-- NEXT_ATTEMPT (R68). -/
def State.nextAttempt (s : State) (l : LinkId) : State :=
  match (s.arbiter l).txn with
  | some t => if t.spacing.isSome then s.updArbiter l fun a => { a with txn := some t.nextAttempt } else s
  | none => s

def execNextAttempt (l : LinkId) (s : State) : Out := .next (s.unheld (·.nextAttempt l))

/-- A poll timer's expiry (R77). -/
def UnitRec.pollExpired (r : UnitRec) (clock : Word) : UnitRec :=
  let r' := { r with pollTimer := none, pollDue := true, pollDueAt := clock }
  if r.configurable && r.configFailed then r'.setConfigDue else r'

/-- POLL_TIMER_EXPIRY (R77). -/
def State.pollExpired (s : State) (u : UnitId) : State :=
  if (s.unit u).pollTimer.isSome then s.updUnit u (·.pollExpired s.fu.clock) else s

def execPollTimerExpiry (u : UnitId) (s : State) : Out := .next (s.unheld (·.pollExpired u))

end Sys2Proof.Machine
end

