-- ==== Sys2Proof/Machine/Links.lean ====
section
/-! DEFINITION. The Link Controllers (spec/03): requests, markers and alignment, numbering, loopback, noise window. -/

namespace Sys2Proof.Machine

/-! ### The record -/

/-- Good, bad and zero runs at 0. -/
def LinkRec.clearRuns (r : LinkRec) : LinkRec := { r with goodRun := 0, badRun := 0, zeroRun := 0 }

/-- Length of the alignment timer (R45). -/
def alignMs : Nat := 250
/-- Length of the noise window (R46). -/
def noiseMs : Nat := 1000
/-- Length of the numbering wait (R47). -/
def numberMs : Nat := 2
/-- Frames of the preamble (R41). -/
def preambleCount : Nat := 512

/-- Entry to ALIGNING (R41, R44, R48): the timer started, the runs at 0 and the hunt begun. -/
def LinkRec.align (r : LinkRec) : LinkRec :=
  { r.clearRuns with state := .aligning, alignTimer := some alignMs, chain := none, numberWait := none, slot := none }

/-- A NUMBER word is sent in the next frame with the link, its generation and a counter of 0, and its return waited for
(R47, R48). -/
def LinkRec.sendNumber (r : LinkRec) (l : LinkId) : LinkRec :=
  { r with slot := some (.number l.val r.generation 0), numberWait := some numberMs }

/-- Entry to NUMBERING (R47): the generation raised, and the first NUMBER word sent. -/
def LinkRec.number (r : LinkRec) (l : LinkId) : LinkRec :=
  LinkRec.sendNumber { r with state := .numbering, generation := (r.generation + 1) % 16, attempt := 1, alignTimer := none,
                              badRun := 0, zeroRun := 0 } l

/-- A good marker in the runs (R42). -/
def LinkRec.good (r : LinkRec) : LinkRec := { r with goodRun := min 3 (r.goodRun + 1), badRun := 0, zeroRun := 0 }

/-- A bad marker in the runs (R42). -/
def LinkRec.bad (r : LinkRec) (zero : Bool) : LinkRec :=
  { r with goodRun := 0, badRun := min 255 (r.badRun + 1), zeroRun := if zero then min 8 (r.zeroRun + 1) else 0 }

/-- The marker is good: it differs from the pattern in at most one bit (R42). -/
def markerGood : Marker → Bool
  | .differs n => n.val ≤ 1
  | .allZero => false

/-- The frame sent has ended; the next one's control slot is idle unless a word is put there (R37, R66). -/
def LinkRec.endFrame (r : LinkRec) : LinkRec := { r with slot := none }

/-- A marker at an established frame position (R42): the runs, and noise at one different bit. One marker returns for each
frame sent (notes/assumptions/48.md). -/
def LinkRec.classify (r : LinkRec) (m : Marker) : LinkRec :=
  let r := r.endFrame
  match m with
  | .differs n =>
    if n.val = 0 then r.good
    else if n.val = 1 then { r.good with noise := min 65535 (r.noise + 1) }
    else r.bad false
  | .allZero => r.bad true

/-- A marker in the hunt (R43): good at the candidate position raises the good run, bad discards the candidate; no noise is
counted. -/
def LinkRec.hunt (r : LinkRec) (m : Marker) : LinkRec :=
  { r with goodRun := if markerGood m then min 3 (r.goodRun + 1) else 0 }

/-! ### Conditions (R59) -/

/-- The generation as a detail. -/
def State.genDetail (s : State) (l : LinkId) : Word := BitVec.ofNat 32 (s.link l).generation

def judgeNoAlign (l : LinkId) (now : Bool) (s : State) : Worked :=
  reportChange .linkNoAlign (.link l) (s.link l).view.noAlign now (s.genDetail l)
    (s.updLink l fun r => { r with view := { r.view with noAlign := now } })

def judgeNoisy (l : LinkId) (now : Bool) (detail : Word) (s : State) : Worked :=
  reportChange .linkNoisy (.link l) (s.link l).view.noisy now detail
    (s.updLink l fun r => { r with view := { r.view with noisy := now } })

def judgeOverlength (l : LinkId) (now : Bool) (detail : Word) (s : State) : Worked :=
  reportChange .chainOverlength (.link l) (s.link l).view.overlength now detail
    (s.updLink l fun r => { r with view := { r.view with overlength := now } })

def judgeEmpty (l : LinkId) (now : Bool) (s : State) : Worked :=
  reportChange .chainEmpty (.link l) (s.link l).view.empty now 0
    (s.updLink l fun r => { r with view := { r.view with empty := now } })

/-- The chain count as the detail of CHAIN_OVERLENGTH (R59); a free value where the count is absent
(notes/assumptions/13.md). -/
def LinkRec.overDetail (r : LinkRec) (l : LinkId) : Word :=
  (r.chain.map (BitVec.ofNat 32)).getD (Config.unstatedDetail FaultKind.chainOverlength.code l.val)

/-! ### Loss of alignment (R44, R48) -/

/-- The link enters ALIGNING with an occurrence, its LINK notice and the link-down report (R44, R48, R52). -/
def loseAlignment (l : LinkId) (k : FaultKind) (detail : Word) (cause : LinkCause) (s : State) : Worked :=
  let w := report k (.link l) .occurred detail s
  let s := (w.1.updLink l (·.align)).linkNotice l cause
  thenWork (s, w.2) (linkDown l)

/-- The judgment after a marker in NUMBERING, SURVEY and RUNNING: first on the zero run, then on the bad run (R44). -/
def judgeRuns (l : LinkId) (m : Marker) (s : State) : Worked :=
  let r := s.link l
  if 8 ≤ r.zeroRun then loseAlignment l .chainReset (s.genDetail l) .chainReset s
  else if !markerGood m && m ≠ .allZero && 4 ≤ r.badRun then loseAlignment l .linkAlignLost 1 .alignLost s
  else (s, [])

/-- Three good markers end the hunt of ALIGNING (R43): NUMBERING begins, LINK_NO_ALIGN becomes inactive. -/
def alignFound (l : LinkId) (s : State) : Worked :=
  let w := judgeNoAlign l false (s.updLink l (·.number l))
  (w.1.linkNotice l .aligned, w.2)

/-- Three good markers end the hunt of LOOPBACK: looped alignment is found (R54). -/
def loopFound (l : LinkId) (s : State) : Worked :=
  judgeNoAlign l false (s.updLink l fun r => { r with looped := true, alignTimer := none, badRun := 0, zeroRun := 0 })

/-- Four bad markers in a row end looped alignment (R54). -/
def loopJudge (l : LinkId) (s : State) : Worked :=
  if 4 ≤ (s.link l).badRun then
    report .linkAlignLost (.link l) .occurred 3
      (s.updLink l fun r => { r.clearRuns with looped := false, alignTimer := some alignMs })
  else (s, [])

/-- A returning marker, in the state the link is in (R42 to R44, R54). -/
def takeMarker (l : LinkId) (m : Marker) (s : State) : Worked :=
  let r := s.link l
  match r.state with
  | .off | .preamble => (s, [])
  | .aligning =>
    let s := s.updLink l (·.hunt m)
    if (s.link l).goodRun = 3 then alignFound l s else (s, [])
  | .numbering | .survey | .running => judgeRuns l m (s.updLink l (·.classify m))
  | .loopback =>
    if r.looped then loopJudge l (s.updLink l (·.classify m))
    else
      let s := s.updLink l (·.hunt m)
      if (s.link l).goodRun = 3 then loopFound l s else (s, [])

def execMarkerReceived (l : LinkId) (m : Marker) (s : State) : Out :=
  .next (s.unheld fun s => settle (takeMarker l m s))

/-- PREAMBLE_END: the 512th frame of the preamble has been sent (R41). -/
def State.preambleEnd (s : State) (l : LinkId) : State :=
  if (s.link l).state = .preamble then
    (s.updLink l fun r => { r.align with preambleFrames := preambleCount }).linkNotice l .preambleEnd
  else s

def execPreambleEnd (l : LinkId) (s : State) : Out := .next (s.unheld (·.preambleEnd l))

/-- LOOPBACK_TEST_WORD: a frame of LOOPBACK sends the test counter and brings back `word`, compared while looped alignment
holds (R54). -/
def loopWord (l : LinkId) (word : Word) (s : State) : Worked :=
  let r := s.link l
  if r.state = .loopback then
    let s := s.updLink l fun r => { r with testCounter := (r.testCounter + 1) % 65536 }
    if r.looped && word.toNat ≠ r.testCounter then
      report .chainEcho (.link l) .occurred word
        (s.updLink l fun r => { r with loopErrors := min 65535 (r.loopErrors + 1) })
    else (s, [])
  else (s, [])

def execLoopbackTestWord (l : LinkId) (word : Word) (s : State) : Out :=
  .next (s.unheld fun s => settle (loopWord l word s))

/-- ALIGNMENT_TIMER_EXPIRY (R45): the timer is not started again. -/
def alignExpired (l : LinkId) (s : State) : Worked :=
  if (s.link l).alignTimer.isSome then judgeNoAlign l true (s.updLink l fun r => { r with alignTimer := none }) else (s, [])

def execAlignmentTimerExpiry (l : LinkId) (s : State) : Out := .next (s.unheld fun s => settle (alignExpired l s))

/-- LINK_NOISY after a window with a noise count (R46). -/
def noisyNow (view : Bool) (count : Nat) : Bool := if 16 < count then true else if count ≤ 4 then false else view

/-- NOISE_WINDOW_EXPIRY (R46). -/
def noiseExpired (l : LinkId) (s : State) : Worked :=
  let r := s.link l
  if r.noiseTimer.isSome then
    judgeNoisy l (noisyNow r.view.noisy r.noise) (BitVec.ofNat 32 r.noise)
      (s.updLink l fun r => { r with lastWindow := r.noise, noise := 0, noiseTimer := some noiseMs })
  else (s, [])

def execNoiseWindowExpiry (l : LinkId) (s : State) : Out := .next (s.unheld fun s => settle (noiseExpired l s))

/-! ### Numbering (R48, R49) -/

/-- Numbering succeeds with n (R49). -/
def numbered (l : LinkId) (n : Nat) (s : State) : Worked :=
  let detail := BitVec.ofNat 32 n
  let s := s.updLink l fun r =>
    { r with chain := some n, attempt := 0, numberWait := none, state := if n = 0 then .running else .survey }
  let w := thenWork (judgeEmpty l (n = 0) s) (judgeOverlength l (4 < n) detail)
  let w : Worked := (w.1.linkNotice l .numbered, w.2)
  thenWork w (if n = 0 then clearUncounted l 0 else beginSurvey l n)

/-- NUMBER_WORD_RETURN (R48): the word must carry this link and the current generation. -/
def numberReturn (l : LinkId) (wordLink gen n : Nat) (s : State) : Worked :=
  let r := s.link l
  if r.state = .numbering && r.numberWait.isSome && wordLink = l.val && gen = r.generation then numbered l n s else (s, [])

def execNumberWordReturn (l : LinkId) (wordLink gen n : Nat) (s : State) : Out :=
  .next (s.unheld fun s => settle (numberReturn l wordLink gen n s))

/-- NUMBER_TIMEOUT (R48): the word is sent again, with the same generation, or after the third attempt numbering fails. -/
def numberTimeout (l : LinkId) (s : State) : Worked :=
  let r := s.link l
  if r.state = .numbering && r.numberWait.isSome then
    if r.attempt < 3 then
      (s.updLink l fun r => LinkRec.sendNumber { r with attempt := r.attempt + 1 } l, [])
    else loseAlignment l .linkAlignLost 2 .numberFail s
  else (s, [])

def execNumberTimeout (l : LinkId) (s : State) : Out := .next (s.unheld fun s => settle (numberTimeout l s))

/-! ### Requests (R40, R53 to R57, R60) -/

/-- LINK_ENABLE (R40). -/
def State.linkEnable (s : State) (h : Hdr) (link : Nat) : State :=
  match numOf 12 link with
  | none => s.reply 0x11 h .badValue
  | some l =>
    if (s.link l).state = .off then
      ((s.updLink l fun r => { r with state := .preamble, preambleFrames := 0, noise := 0, noiseTimer := some noiseMs })
        |>.linkNotice l .enable).reply 0x11 h .done
    else s.reply 0x11 h .none

def execLinkEnable (h : Hdr) (link : Nat) (s : State) : Out :=
  .next (s.take (.linkEnable h link) h 0x11 .venue (·.linkEnable h link))

/-- A record taken OFF (R57): generation and last window count stay. -/
def LinkRec.disabled (r : LinkRec) : LinkRec :=
  { r.clearRuns with state := .off, loopback := false, looped := false, attempt := 0, preambleFrames := 0, chain := none,
                     alignTimer := none, noiseTimer := none, noise := 0, numberWait := none, slot := none }

/-- An accepted LINK_DISABLE (R57): LINK_NOISY and CHAIN_OVERLENGTH end with the noise count and the chain count as they stood
(R59). -/
def disableLink (l : LinkId) (s : State) : Worked :=
  let old := s.link l
  let w := thenWork (judgeNoAlign l false (s.updLink l (·.disabled))) (judgeNoisy l false (BitVec.ofNat 32 old.noise))
  let w := thenWork (thenWork w (judgeOverlength l false (old.overDetail l))) (judgeEmpty l false)
  thenWork (w.1.linkNotice l .disable, w.2) (linkDown l)

/-- LINK_DISABLE (R57). -/
def State.linkDisable (s : State) (h : Hdr) (link : Nat) : State :=
  match numOf 12 link with
  | none => s.reply 0x12 h .badValue
  | some l => if (s.link l).state = .off then s.reply 0x12 h .none else State.answer (disableLink l s) 0x12 h .done

def execLinkDisable (h : Hdr) (link : Nat) (s : State) : Out :=
  .next (s.take (.linkDisable h link) h 0x12 .venue (·.linkDisable h link))

/-- A record that leaves LOOPBACK (R55); the runs are 0 in PREAMBLE (R41). -/
def LinkRec.unlooped (r : LinkRec) : LinkRec :=
  { r.clearRuns with state := .preamble, loopback := false, looped := false, alignTimer := none, preambleFrames := 0 }

/-- A record brought up again from the start (R56). -/
def LinkRec.restarted (r : LinkRec) : LinkRec :=
  { r.clearRuns with state := .preamble, loopback := false, looped := false, preambleFrames := 0, attempt := 0,
                     alignTimer := none, chain := none, numberWait := none, slot := none }

/-- LINK_RESTART (R56). -/
def State.linkRestart (s : State) (h : Hdr) (link : Nat) : State :=
  match numOf 12 link with
  | none => s.reply 0x13 h .badValue
  | some l =>
    if (s.link l).state = .off then s.reply 0x13 h .linkState
    else State.answer (linkDown l ((s.updLink l (·.restarted)).linkNotice l .restart)) 0x13 h .done

def execLinkRestart (h : Hdr) (link : Nat) (s : State) : Out :=
  .next (s.take (.linkRestart h link) h 0x13 .venue (·.linkRestart h link))

/-- The transaction has begun (R51, R53): a survey's with the first word of its first attempt, since nothing is outstanding
between two of them, and the arbiter's with its start, which makes LINK_LOOPBACK on LINK_BUSY (notes/assumptions/19.md). -/
def Txn.begun (t : Txn) : Bool := t.requester ≠ .survey || 1 < t.attempt || 0 < t.sent

/-- A control transaction is outstanding on the link (R51): a numbering round, or a transaction of the Unit Manager that has
begun. -/
def State.outstanding (s : State) (l : LinkId) : Bool := (s.link l).state = .numbering || (s.arbiter l).txn.any (·.begun)

/-- The control word in the slot of the frame now sent (R37): the NUMBER word or request word put there, and else an idle word,
which carries the generation as every word does (R50). A word is sent in one frame (R47, R66). -/
def State.slotWord (s : State) (l : LinkId) : CtrlWord :=
  let r := s.link l
  match r.state with
  | .numbering | .survey | .running => r.slot.getD (.idle r.generation)
  | .off | .preamble | .aligning | .loopback => .idle r.generation

/-- The downlink of a link: no light, dark frames, or frames with the correct marker, a control word and a payload for each
position (R37). -/
inductive Downlink | noLight | dark | frames (slot : CtrlWord) (payload : List IQ)
  deriving DecidableEq, Repr

/-- What a link sends down its fibre in each state (R37): mixer outputs in RUNNING, and else zeros. -/
def State.downlink (s : State) (l : LinkId) : Downlink :=
  match (s.link l).state with
  | .off => .noLight
  | .loopback => .dark
  | .running => .frames (s.slotWord l) ((unitsOf l).map (Vector.get s.payloadOut))
  | .preamble | .aligning | .numbering | .survey => .frames (s.slotWord l) (List.replicate 4 ⟨0, 0⟩)

/-- A record that enters LOOPBACK (R53). -/
def LinkRec.looping (r : LinkRec) : LinkRec :=
  { r.clearRuns with state := .loopback, loopback := true, looped := false, chain := none, testCounter := 0, loopErrors := 0,
                     alignTimer := some alignMs, slot := none }

/-- An accepted LINK_LOOPBACK on (R53): CHAIN_OVERLENGTH ends with the chain count as it stood (R59). -/
def enterLoopback (l : LinkId) (s : State) : Worked :=
  let old := s.link l
  let w := thenWork (judgeNoAlign l false (s.updLink l (·.looping))) (judgeEmpty l false)
  let w := thenWork w (judgeOverlength l false (old.overDetail l))
  thenWork (w.1.linkNotice l .loopbackOn, w.2) (linkDown l)

/-- LINK_LOOPBACK on (R53). -/
def State.loopbackOn (s : State) (h : Hdr) (link : Nat) : State :=
  match numOf 12 link with
  | none => s.reply 0x14 h .badValue
  | some l =>
    match (s.link l).state with
    | .off => s.reply 0x14 h .linkState
    | .loopback => s.reply 0x14 h .none
    | _ => if s.outstanding l then s.reply 0x14 h .linkBusy else State.answer (enterLoopback l s) 0x14 h .done

def execLinkLoopbackOn (h : Hdr) (link : Nat) (s : State) : Out :=
  .next (s.take (.linkLoopbackOn h link) h 0x14 .venue (·.loopbackOn h link))

/-- LINK_LOOPBACK off (R55). -/
def State.loopbackOff (s : State) (h : Hdr) (link : Nat) : State :=
  match numOf 12 link with
  | none => s.reply 0x14 h .badValue
  | some l =>
    if (s.link l).state = .loopback then
      ((s.updLink l (·.unlooped)).linkNotice l .loopbackOff).reply 0x14 h .done
    else s.reply 0x14 h .none

def execLinkLoopbackOff (h : Hdr) (link : Nat) (s : State) : Out :=
  .next (s.take (.linkLoopbackOff h link) h 0x14 .venue (·.loopbackOff h link))

/-- The condition view in one octet, a bit for each condition in the order R39 lists them (notes/assumptions/45.md). -/
def LinkView.bits (v : LinkView) : Nat := Machine.bits [v.noAlign, v.noisy, v.overlength, v.empty]

/-- The fields of a link (R60); the generation takes one octet (notes/assumptions/22.md). -/
def State.linkFields (s : State) (l : LinkId) : List Fld :=
  let r := s.link l
  [.o1 r.state.octet, .flag r.loopback, .flag r.looped, .o1 r.generation] ++ Fld.opt (r.chain.map Fld.o1) ++
    [.o1 r.attempt, .o2 r.noise, .o2 r.lastWindow, .o1 r.view.bits, .o2 r.testCounter, .o2 r.loopErrors,
     .flag (s.outstanding l)]

def execLinkRead (h : Hdr) (sel : NumSel) (s : State) : Out :=
  .next (s.take (.linkRead h sel) h 0x15 .any fun s => s.readSel 0x15 h sel (numOf 12) (indices 12) s.linkFields)

end Sys2Proof.Machine
end

