-- ==== Sys2Proof/Machine/Plans.lean ====
section
/-! DEFINITION. The Plan Store (spec/07): banks, validation, selection, the switch with its reconcile, and zone holds. -/

namespace Sys2Proof.Machine

/-! ### Validation (R132) -/

/-- The first offender of a bank that is not valid: UNDEFINED_HOME or OVERFULL. -/
inductive Offender | undefinedHome (u : UnitId) (z : ZoneId) | overfull (z : ZoneId) (n : Nat)
  deriving DecidableEq, Repr

/-- The units homed in a zone by a bank. -/
def Bank.homed (b : Bank) (z : ZoneId) : Nat := ((indices 48).filter fun u => Vector.get b.homes u = some z).length

/-- The first unit homed in an undefined zone. -/
def State.undefinedHome (s : State) (b : Bank) : Option Offender :=
  (indices 48).findSome? fun u => match Vector.get b.homes u with
    | some z => if (s.zone z).defined then none else some (.undefinedHome u z)
    | none => none

/-- The first zone homing more than 16 units. -/
def Bank.overfull (b : Bank) : Option Offender :=
  (indices 24).findSome? fun z => if Config.zoneCapacity < b.homed z then some (.overfull z (b.homed z)) else none

/-- The validation of a bank: `none` for VALID, or the first offender (R132). -/
def State.validate (s : State) (b : Bank) : Option Offender := (s.undefinedHome b).or b.overfull

/-- Cause and object of an offender (R132): UNDEFINED_HOME 00h, OVERFULL 01h, the cause first (notes/assumptions/56.md); a unit
index takes one octet (notes/assumptions/50.md). -/
def Offender.fields : Offender → List Fld
  | .undefinedHome u z => [.o1 0, .o1 u.val, .o1 (zoneNum z)]
  | .overfull z n => [.o1 1, .o1 (zoneNum z), .o1 n]

/-- The validation result of PLAN_READ: VALID 00h, or 01h with the offender (R131). -/
def validationFields : Option Offender → List Fld
  | none => [.o1 0]
  | some o => .o1 1 :: o.fields

/-! ### PLAN_WRITE (R130) -/

/-- A home list: units and zones in range, no unit twice. -/
def homesOf (l : List (UnitRef × Nat)) : Option (List (UnitId × Home)) :=
  let ok := l.filterMap fun e => match unitOfRef e.1, targetOf e.2 with
    | some u, some h => some (u, h)
    | _, _ => none
  if ok.length = l.length && (ok.map (·.1)).eraseDups.length = l.length then some ok else none

/-- A mark entry within R128. -/
def markOf (e : MarkEntry) : Option (ZoneId × Marks) :=
  match zoneOf e.zone, e.auto with
  | some z, some auto =>
    if e.high ≤ 16000 && e.low ≤ 16000 && e.hyst ≤ 8000 && 1 ≤ e.dwell && e.dwell ≤ 60 then
      some (z, ⟨e.high, e.low, e.hyst, e.dwell, auto⟩)
    else none
  | _, _ => none

/-- A marks list: zones and marks in range, no zone twice. -/
def marksOf (l : List MarkEntry) : Option (List (ZoneId × Marks)) :=
  let ok := l.filterMap markOf
  if ok.length = l.length && (ok.map (·.1)).eraseDups.length = l.length then some ok else none

/-- An optional part of a PLAN_WRITE: `none` where it is carried and not in range. -/
def partOf {α β : Type} (f : α → Option β) : Option α → Option (Option β)
  | none => some none
  | some a => (f a).map some

/-- The bank with the parts carried written. -/
def Bank.write (b : Bank) (mode : Option PlanMode) (homes : Option (List (UnitId × Home)))
    (marks : Option (List (ZoneId × Marks))) : Bank :=
  { mode := mode.getD b.mode,
    homes := (homes.getD []).foldl (fun t e => t.upd e.1 fun _ => e.2) b.homes,
    marks := (marks.getD []).foldl (fun t e => t.upd e.1 fun _ => e.2) b.marks }

/-- The marks hold the relation Lw + Y < H − Y (R128). -/
def Marks.ordered (m : Marks) : Bool := m.low + m.hyst + m.hyst < m.high

/-- The lowest zone of a bank without the relation. -/
def Bank.unordered (b : Bank) : Option ZoneId := (indices 24).find? fun z => !(Vector.get b.marks z).ordered

/-- PLAN_WRITE (R130): the bank is judged before the parts, a form octet beyond its forms among them. -/
def State.planWrite (s : State) (h : Hdr) (bank : Nat) (mode : Option (Option PlanMode))
    (homes : Option (List (UnitRef × Nat))) (marks : Option (List MarkEntry)) : State :=
  match numOf 4 bank with
  | none => s.reply 0x1F h .badValue
  | some n =>
    if n = s.ps.active || s.ps.pending = some n then s.reply 0x1F h .planInUse
    else if !h.formOk then s.reply 0x1F h .badValue
    else match partOf id mode, partOf homesOf homes, partOf marksOf marks with
      | some mode, some homes, some marks =>
        let b := (s.bank n).write mode homes marks
        match b.unordered with
        | some z => s.reply 0x1F h .badValue [.o1 (zoneNum z)]
        | none => (s.updBank n fun _ => b).reply 0x1F h .done
      | _, _, _ => s.reply 0x1F h .badValue

def execPlanWrite (h : Hdr) (bank : Nat) (mode : Option (Option PlanMode)) (homes : Option (List (UnitRef × Nat)))
    (marks : Option (List MarkEntry)) (s : State) : Out :=
  .next (s.takeForm (.planWrite h bank mode homes marks) h 0x1F .venue (·.planWrite h bank mode homes marks))

/-! ### PLAN_READ (R131) -/

def planModeOctet : PlanMode → Nat
  | .fixed => 0 | .seed => 1

/-- Role of a bank: ACTIVE, PENDING, both, or neither. -/
def State.bankRole (s : State) (n : BankId) : Nat :=
  if s.ps.active = n then (if s.ps.pending = some n then 2 else 0) else if s.ps.pending = some n then 1 else 3

def Marks.fields (m : Marks) : List Fld := [.o2 m.high, .o2 m.low, .o2 m.hyst, .o2 m.dwell, .flag m.auto]

/-- The fields of a bank (R131), its homes and marks without a count. The part for the active bank alone is a choice of
notes/assumptions/41.md: 48 pairs of flags in unit index order, home differs and then queued or blending, with no count and no
octet that says it is there; nothing stands for it behind another bank. -/
def State.bankFields (s : State) (n : BankId) : List Fld :=
  let b := s.bank n
  [.o1 n.val, .o1 (s.bankRole n), .o1 (planModeOctet b.mode)] ++ b.homes.toList.map (fun h => .o1 (homeNum h)) ++
    b.marks.toList.flatMap Marks.fields ++ validationFields (s.validate b) ++
    if s.ps.active = n then
      (indices 48).flatMap fun u => [.flag (s.home u ≠ Vector.get b.homes u), .flag (s.isQueued u || (s.blend u).isSome)]
    else []

def execPlanRead (h : Hdr) (sel : NumSel) (s : State) : Out :=
  .next (s.take (.planRead h sel) h 0x20 .any fun s => s.readSel 0x20 h sel (numOf 4) (indices 4) s.bankFields)

/-! ### PLAN_SELECT (R133) -/

/-- PLAN_SELECT of a bank (R133). -/
def State.planSelect (s : State) (h : Hdr) (bank : Nat) : State :=
  match numOf 4 bank with
  | none => s.reply 0x21 h .badValue
  | some n => match s.validate (s.bank n) with
    | some o => s.reply 0x21 h .planInvalid o.fields
    | none => (s.updPs fun p => { p with pending := some n }).reply 0x21 h .done

def execPlanSelect (h : Hdr) (bank : Nat) (s : State) : Out :=
  .next (s.take (.planSelect h bank) h 0x21 .venue (·.planSelect h bank))

/-- PLAN_SELECT none (R133). -/
def State.planSelectNone (s : State) (h : Hdr) : State :=
  if s.ps.pending.isNone then s.reply 0x21 h .none else (s.updPs fun p => { p with pending := none }).reply 0x21 h .done

def execPlanSelectNone (h : Hdr) (s : State) : Out := .next (s.take (.planSelectNone h) h 0x21 .venue (·.planSelectNone h))

/-! ### The switch (R134, R136) -/

/-- Every zone NORMAL with both dwells 0 (R117 of spec/06). -/
def State.coolZones (s : State) : State :=
  s.updLm fun m => { m with zones := m.zones.map fun r => { r with temp := .normal, hotDwell := 0, coolDwell := 0 } }

/-- Reconcile of the whole layout, in unit index order (R136). -/
def State.reconcileAll (s : State) : State :=
  (indices 48).foldl (fun s u => if s.offPlan u then s.enqueue u (s.planHome u) .plan false else s) s

/-- The fields of a PLAN notice (R134). -/
def State.planNotice (s : State) (old new : BankId) (removed enqueued : Nat) : List Fld :=
  [.o1 old.val, .o1 new.val, .o1 (planModeOctet (s.bank new).mode), .flag (old = new), .o1 removed, .o1 enqueued,
   .word s.fu.clock]

/-- The switch to bank `n`, in the steps of R134. -/
def State.switchTo (s : State) (n : BankId) : State :=
  let old := s.ps.active
  let removed := s.me.queue.length
  let s := (s.updPs fun p => { p with active := n, pending := none }).coolZones
  let s := ((s.removeEntries (fun _ => true) .plan).reconcileAll).respread
  s.post .plan (s.planNotice old n removed s.me.queue.length)

/-- The Plan Store at an evaluation period expiry: the switch to a pending plan, and the start pass after a reconcile that
enqueued (R134, spec/08 R150). -/
def expirePlan (s : State) : Worked :=
  match s.ps.pending with
  | none => (s, [])
  | some n =>
    let s := s.switchTo n
    if s.me.queue.isEmpty then (s, []) else startPass s

/-! ### Holds (R140 to R142) -/

/-- The move between `origin` and `target` touches the zone. -/
def touches (z : ZoneId) (origin target : Home) : Bool := origin = some z || target = some z

/-- A FORWARD AUTO blend that touches the zone turns REVERSE (R141). -/
def holdBlend (z : ZoneId) (u : UnitId) (s : State) : Worked :=
  match s.blend u with
  | some b => if b.source = .auto && !b.reverse && touches z (s.home u) b.target then reverseBlend u b .hold s else (s, [])
  | none => (s, [])

/-- The effects of a hold taken on a zone (R141). -/
def holdTaken (z : ZoneId) (s : State) : Worked :=
  eachWork (indices 48) (holdBlend z) (s.removeEntries (fun e => e.source = .auto && touches z e.origin e.target) .hold)

/-- ZONE_HOLD (R140) by issuer `who`. -/
def State.zoneHold (s : State) (h : Hdr) (who : Issuer) (zone : Nat) : State :=
  match zoneOf zone with
  | none => s.reply 0x22 h .badValue
  | some z =>
    if !(s.zone z).defined then s.reply 0x22 h .notDefined
    else match s.holdOf z with
      | none => State.answer (holdTaken z (s.setHold z (some who))) 0x22 h .done [ownerField none]
      | some owner =>
        if owner = who then s.reply 0x22 h .done [ownerField (some who)]
        else s.reply 0x22 h .held [ownerField (some owner)]

/-- The issuer of an admitted request. -/
def issuerOf (h : Hdr) : Issuer := (whoOf h).getD none

def execZoneHold (h : Hdr) (zone : Nat) (s : State) : Out :=
  .next (s.take (.zoneHold h zone) h 0x22 .any (·.zoneHold h (issuerOf h) zone))

/-- ZONE_RELEASE (R142) by issuer `who`. -/
def State.zoneRelease (s : State) (h : Hdr) (who : Issuer) (zone : Nat) : State :=
  match zoneOf zone with
  | none => s.reply 0x23 h .badValue
  | some z => match s.holdOf z with
    | none => s.reply 0x23 h .none
    | some owner =>
      if !(s.zone z).defined then s.reply 0x23 h .none
      else if who ≠ none && owner ≠ who then s.reply 0x23 h .notPermitted [ownerField (some owner)]
      else (s.setHold z none).reply 0x23 h .done

def execZoneRelease (h : Hdr) (zone : Nat) (s : State) : Out :=
  .next (s.take (.zoneRelease h zone) h 0x23 .any (·.zoneRelease h (issuerOf h) zone))

end Sys2Proof.Machine
end

