-- ==== Sys2Proof/Machine/Load.lean ====
section
/-! DEFINITION. The Load Monitor and the Spread Engine (spec/06): busy windows, the evaluation period expiry, rounds. -/

namespace Sys2Proof.Machine

/-! ### Busy windows (R111, R112) -/

/-- A component saturated to 16 bits. -/
def clampSample (x : Int) : Int := (saturate x).1

/-- The uplink composite of one sample: the streams of the configured band set added and saturated (R111). -/
def compositeSample (set : BitVec 8) (streams : List IQ) : Int × Int :=
  let on := (List.range 8).filter set.getLsbD
  (clampSample (on.foldl (fun acc b => acc + (sampleAt streams b).i.toInt) 0),
   clampSample (on.foldl (fun acc b => acc + (sampleAt streams b).q.toInt) 0))

/-- The configured band set at sample `j` of a window that has had the sets `earlier` before `current`: the set of place n is
in force up to the n-th cut (R112, notes/assumptions/25.md). -/
def setAt (current : BitVec 8) : List (BitVec 8) → List Nat → Nat → BitVec 8
  | b :: bs, c :: cs, j => if j < c then b else setAt current bs cs j
  | _, _, _ => current

/-- The I² + Q² of one sample's uplink composite. -/
def sampleEnergy (set : BitVec 8) (streams : List IQ) : Nat :=
  let c := compositeSample set streams
  (c.1 * c.1 + c.2 * c.2).toNat

/-- The sum of I² + Q² over the samples of a window, each composed with the set in force at it. -/
def windowEnergy (setOf : Nat → BitVec 8) (samples : List (List IQ)) : Nat :=
  (samples.mapIdx fun j x => sampleEnergy (setOf j) x).sum

/-- The window power of an energy over `count` samples: 100 × log10(mean / 2^30), truncated toward zero, at least −999
(R111). -/
def windowPower (energy count : Nat) : Int :=
  let full := count * 2 ^ 30
  if energy = 0 then -999
  else if full ≤ energy then (largest (fun k => 10 ^ k * full ^ 100 ≤ energy ^ 100) 10 0 : Nat)
  else -((min 999 (largest (fun k => 10 ^ k * energy ^ 100 ≤ full ^ 100) 10 0) : Nat) : Int)

/-- A window's end for a unit (R112): a measured window is counted, and busy at or above the threshold it began with; the
next window is measured if the unit is SERVING now, against its threshold of now. -/
def MeasureRec.endWindow (m : MeasureRec) (power : Int) (serving : Bool) (threshold : Int) : MeasureRec :=
  { m with
    measured := if m.measuring then min 5000 (m.measured + 1) else m.measured
    busy := if m.measuring && m.windowThreshold ≤ power then min 5000 (m.busy + 1) else m.busy
    measuring := serving
    windowThreshold := threshold
    earlierSets := [] }

/-- BUSY_WINDOW_END: a 1 ms window ends for the unit, each sample composed with the band set in force at it (R111, R112). -/
def State.windowEnd (s : State) (u : UnitId) (w : BusyWindow) : State :=
  let r := s.unit u
  let setOf := setAt (r.configured.getD 0) (s.measure u).earlierSets w.cuts
  let power := windowPower (windowEnergy setOf w.samples) w.samples.length
  s.updMeasure u fun m => m.endWindow power (s.serving u) r.threshold

def execBusyWindowEnd (u : UnitId) (w : BusyWindow) (s : State) : Out := .next (s.unheld (·.windowEnd u w))

/-! ### The evaluation period expiry (R113 to R118) -/

/-- The occupancy of a period: floor(1000 × busy / measured) (R114). -/
def occupancyOf (busy measured : Nat) : Nat := 1000 * busy / measured

/-- The smoothed estimate (R114). -/
def smooth (estimate occ k : Nat) : Nat :=
  if k = 0 then occ else ((estimate : Int) + ((occ : Int) - estimate + 2 ^ (k - 1)) / 2 ^ k).toNat

/-- A measurement record at the expiry (R114). -/
def MeasureRec.expire (m : MeasureRec) (serving : Bool) (k : Nat) : MeasureRec :=
  let occ := occupancyOf m.busy m.measured
  let m' := if serving && 0 < m.measured then { m with occupancy := some occ, estimate := smooth m.estimate occ k } else m
  { m' with measured := 0, busy := 0 }

/-- Every unit's occupancy and estimate (R114). -/
def State.expireUnits (s : State) : State :=
  s.updLm fun m => { m with measures := Tbl.make fun u => (Vector.get m.measures u).expire (s.serving u) m.shift }

/-- The load of a zone: the estimates of its SERVING home members; 0 for an undefined zone (R115). -/
def State.zoneLoad (s : State) (z : ZoneId) : Nat :=
  if (s.zone z).defined then
    (((indices 48).filter fun u => s.home u = some z && s.serving u).map fun u => (s.measure u).estimate).foldl (· + ·) 0
  else 0

/-- Every zone's load (R115). -/
def State.expireZones (s : State) : State :=
  s.updLm fun m => { m with zones := Tbl.make fun z => { Vector.get m.zones z with load := s.zoneLoad z } }

/-- The judgment of a zone's temperature (R116). -/
def LoadRec.judge (r : LoadRec) (m : Marks) : LoadRec :=
  match r.temp with
  | .normal =>
    if m.high ≤ r.load then
      if m.dwell ≤ r.hotDwell + 1 then { r with temp := .hot, hotDwell := 0, coolDwell := 0 }
      else { r with hotDwell := r.hotDwell + 1, coolDwell := 0 }
    else if r.load ≤ m.low then
      if m.dwell ≤ r.coolDwell + 1 then { r with temp := .cool, hotDwell := 0, coolDwell := 0 }
      else { r with coolDwell := r.coolDwell + 1, hotDwell := 0 }
    else { r with hotDwell := 0, coolDwell := 0 }
  | .hot => if r.load + m.hyst ≤ m.high then { r with temp := .normal } else r
  | .cool => if m.low + m.hyst ≤ r.load then { r with temp := .normal } else r

/-- The cause of a change of temperature (R118). -/
def tempCause (old new : Temperature) : Nat :=
  match old, new with
  | .normal, .cool => 1
  | .hot, _ => 2
  | .cool, _ => 3
  | _, _ => 0

/-- A defined zone is judged; a change posts a ZONE notice, and a change to HOT is named to a working Spread Engine (R116,
R118, R120). -/
def State.judgeZone (s : State) (z : ZoneId) : State :=
  if !(s.zone z).defined then s
  else
    let old := s.load z
    let new := old.judge (Vector.get s.activeBank.marks z)
    let s := s.updLoad z fun _ => new
    if new.temp = old.temp then s
    else
      let s := s.post .zone (zoneNotice z old.temp new.temp new.load (tempCause old.temp new.temp) s.fu.clock)
      if new.temp = .hot && s.se.working then s.updSe fun e => { e with named := e.named ++ [z] } else s

/-- Every zone's temperature, in zone order, except at a switch expiry (R116, R117). -/
def State.expireTemps (s : State) : State :=
  if s.ps.pending.isSome then s else (indices 24).foldl State.judgeZone s

/-- The evaluation period expiry (R113): estimates, loads and temperatures, then the Level Engine and the Plan Store
(notes/assumptions/31.md); the timer is started again at P. -/
def State.evaluate (s : State) : State :=
  settle (expirePlan (expireLevels (s.expireUnits.expireZones.expireTemps))) |>.updLm fun m =>
    { m with timer := some m.period }

def execEvaluationPeriodExpiry (s : State) : Out :=
  .next (s.unheld fun s => if s.lm.timer.isSome then s.evaluate else s)

/-- LOAD_SET (R113); one that carries neither field changes nothing (notes/assumptions/52.md). -/
def State.loadSet (s : State) (h : Hdr) (period shift : Option Nat) : State :=
  if !within 250 5000 period || !within 0 7 shift then s.reply 0x1D h .badValue
  else (s.updLm fun m => { m with period := period.getD m.period, shift := shift.getD m.shift }).reply 0x1D h .done

def execLoadSet (h : Hdr) (period shift : Option Nat) (s : State) : Out :=
  .next (s.take (.loadSet h period shift) h 0x1D .venue (·.loadSet h period shift))

/-! ### Rounds (R120 to R125) -/

/-- The moves a round has taken so far: target and estimate of each. -/
abbrev RoundMoves := List (ZoneId × Nat)

/-- The round count of a zone (R125). -/
def roundCount (ms : RoundMoves) (z : ZoneId) : Nat := (ms.filter (·.1 = z)).length

/-- The round load of a zone (R125). -/
def roundLoad (ms : RoundMoves) (z : ZoneId) : Nat := ((ms.filter (·.1 = z)).map (·.2)).foldl (· + ·) 0

/-- The marks of a zone in the active plan. -/
def State.marks (s : State) (z : ZoneId) : Marks := Vector.get s.activeBank.marks z

/-- An AUTO migration with origin `z` is queued or in flight (R121 check 3). -/
def State.originBusy (s : State) (z : ZoneId) : Bool :=
  s.me.queue.any (fun e => e.source = .auto && e.origin = some z) ||
    (indices 48).any fun u => s.home u = some z && (s.blend u).any (·.source = .auto)

/-- The home members of a zone without a blend record. -/
def State.homeRole (s : State) (z : ZoneId) : List UnitId :=
  (indices 48).filter fun u => s.home u = some z && (s.blend u).isNone

/-- The estimate of a unit. -/
def State.estimate (s : State) (u : UnitId) : Nat := (s.measure u).estimate

/-- A unit placed among others by descending estimate, behind equals. -/
def State.placeUnit (s : State) (u : UnitId) : List UnitId → List UnitId
  | [] => [u]
  | v :: l => if s.estimate v < s.estimate u then u :: v :: l else v :: s.placeUnit u l

/-- The candidates of a zone, in the order they are tried (R122). -/
def State.candidates (s : State) (z : ZoneId) : List UnitId :=
  ((s.homeRole z).filter fun u => s.serving u && !s.isQueued u).foldl (fun l u => s.placeUnit u l) []

/-- A zone meets the conditions of R123 before the prediction. -/
def State.openTarget (s : State) (ms : RoundMoves) (u : UnitId) (z : ZoneId) : Bool :=
  s.eligibleFor u z && (s.load z).temp = .cool && (s.holdOf z).isNone && (s.marks z).auto &&
    s.liveCount z + roundCount ms z < Config.zoneCapacity &&
    (s.load z).load + roundLoad ms z + s.estimate u < (s.marks z).high

/-- The zones that reach the prediction for a unit, with its answers, in zone order (R124). -/
def State.predictions (s : State) (ms : RoundMoves) (u : UnitId) : List (ZoneId × Admission) :=
  ((indices 24).filter (s.openTarget ms u)).map fun z => (z, s.admission u z)

/-- Among the zones that pass, the one with the lowest load, the lowest number where equal (R125). -/
def State.bestTarget (s : State) (ms : RoundMoves) (ps : List (ZoneId × Admission)) : Option ZoneId :=
  let weight (z : ZoneId) : Nat := (s.load z).load + roundLoad ms z
  (ps.filter (·.2 = .pass)).foldl
    (fun best p => match best with
      | none => some p.1
      | some z => if weight p.1 < weight z then some p.1 else some z)
    none

/-- The search of a HOT zone's candidates (R122): the first with a target moves. `tried` and `last` are what R127 records. -/
def State.search (s : State) (ms : RoundMoves) : List UnitId → Nat → Option Admission → RoundOutcome
  | [], tried, last => .noTarget tried last
  | u :: l, tried, _ =>
    let ps := s.predictions ms u
    match s.bestTarget ms ps with
    | some z => .moved u z
    | none => s.search ms l (tried + 1) (ps.getLast?.map (·.2))

/-- The outcome of a HOT zone (R121, R122). -/
def State.scanZone (s : State) (ms : RoundMoves) (z : ZoneId) : RoundOutcome :=
  if (s.holdOf z).isSome then .held
  else if !(s.marks z).auto then .autoOff
  else if s.originBusy z then .originBusy
  else if (s.homeRole z).length ≤ 1 then .single
  else s.search ms (s.candidates z) 0 none

/-- A round so far: the state, the moves, the outcomes. -/
structure RoundRun where
  state : State
  moves : RoundMoves
  outcomes : List (ZoneId × RoundOutcome)

/-- One HOT zone of a round: a move found is enqueued with source AUTO (R125). -/
def RoundRun.scan (r : RoundRun) (z : ZoneId) : RoundRun :=
  let outcome := r.state.scanZone r.moves z
  match outcome with
  | .moved u target =>
    { state := r.state.enqueue u (some target) .auto false, moves := r.moves ++ [(target, r.state.estimate u)],
      outcomes := r.outcomes ++ [(z, outcome)] }
  | _ => { r with outcomes := r.outcomes ++ [(z, outcome)] }

/-- The HOT zones, in zone order. -/
def State.hotZones (s : State) : List ZoneId := (indices 24).filter fun z => (s.load z).temp = .hot

/-- A round (R120, R121): every HOT zone is scanned, the round record written, and a start pass follows a round that moved
(spec/08 R150). -/
def runRound (hot : Bool) (s : State) : Worked :=
  let r := s.hotZones.foldl RoundRun.scan ⟨s, [], []⟩
  let s := r.state.updSe fun e => { e with round := some ⟨s.fu.clock, hot, r.outcomes⟩ }
  if r.moves.isEmpty then (s, []) else startPass s

/-- The balance timer is started at the balance interval. -/
def State.startBalance (s : State) : State := s.updSe fun e => { e with timer := some s.balanceMs }

/-- BALANCE_TIMER_EXPIRY (R120). -/
def balanceExpired (s : State) : Worked :=
  if s.se.working && s.se.timer.isSome then
    let s := s.startBalance
    if s.hotZones.isEmpty then (s, []) else runRound false s
  else (s, [])

def execBalanceTimerExpiry (s : State) : Out := .next (s.unheld fun s => settle (balanceExpired s))

/-- HOT_ZONE_ROUND: the round for the zones named as become HOT (R120). -/
def hotRound (s : State) : Worked :=
  if s.se.working && !s.se.named.isEmpty then
    runRound true (s.startBalance.updSe fun e => { e with named := [] })
  else (s, [])

def execHotZoneRound (s : State) : Out := .next (s.unheld fun s => settle (hotRound s))

/-! ### LOAD_READ (R127) -/

/-- The fields of a measurement record; an absent occupancy reads 1001 (R127). "Measured now" says whether the window in
progress is a measured one (notes/assumptions/47.md). -/
def State.measureFields (s : State) (u : UnitId) : List Fld :=
  let m := s.measure u
  indexAndUnit u ++ [.i2 (s.unit u).threshold, .o2 m.measured, .o2 m.busy, .o2 (m.occupancy.getD 1001), .o2 m.estimate,
    .flag m.measuring]

/-- The fields of a zone's load (R127); its dwells are counts (R24 of spec/02, R202). -/
def State.loadFields (s : State) (z : ZoneId) : List Fld :=
  let r := s.load z
  [.flag (s.zone z).defined, .o2 r.load, .o1 r.temp.octet, .o1 r.hotDwell, .o1 r.coolDwell] ++ (s.marks z).fields

/-- The last prediction of a NO_TARGET outcome: a feed, the power test, or none (R127). -/
def admissionFields : Option Admission → List Fld
  | some (.noise f) => [.o1 0, .o1 f.val]
  | some .power => [.o1 1]
  | _ => [.o1 2]

/-- An outcome of a round (R127), behind the number of its HOT zone (notes/assumptions/47.md). -/
def outcomeFields : ZoneId × RoundOutcome → List Fld
  | (z, .moved u target) => [.o1 (zoneNum z), .o1 0] ++ Fld.unit u ++ [.o1 (zoneNum target)]
  | (z, .held) => [.o1 (zoneNum z), .o1 1]
  | (z, .autoOff) => [.o1 (zoneNum z), .o1 2]
  | (z, .originBusy) => [.o1 (zoneNum z), .o1 3]
  | (z, .single) => [.o1 (zoneNum z), .o1 4]
  | (z, .noTarget tried last) => [.o1 (zoneNum z), .o1 5, .o1 tried] ++ admissionFields last

/-- The round record (R127): trigger TIMER 00h, HOT 01h. That it is sent as an optional field, 00h alone while it is empty and 01h
before it otherwise, is a choice of notes/assumptions/47.md. -/
def roundFields : Option RoundRec → List Fld
  | none => [.o1 0]
  | some r => [.o1 1, .word r.clock, .o1 (if r.hot then 1 else 0)] ++ Fld.list outcomeFields r.outcomes

/-- What the selector "spread" returns (R127). -/
def State.spreadFields (s : State) : List Fld :=
  [.flag s.se.working, .flag s.me.params.auto, .o2 s.me.params.balance] ++ Fld.timer s.se.timer ++ roundFields s.se.round

/-- P, k and the time left to the next expiry (R127). -/
def State.periodFields (s : State) : List Fld := [.o2 s.lm.period, .o2 s.lm.shift, .o2 (s.lm.timer.getD 0)]

/-- LOAD_READ (R127). -/
def State.loadRead (s : State) (h : Hdr) (sel : LoadSel) : State :=
  let answer (fields : List Fld) := s.reply 0x1E h .done (fields ++ s.periodFields)
  match sel with
  | .units => answer (Fld.list s.measureFields (indices 48))
  | .zones => answer (Fld.list s.loadFields (indices 24))
  | .spread => answer s.spreadFields
  | .unit r => match unitOfRef r with
    | some u => answer (Fld.list s.measureFields [u])
    | none => s.reply 0x1E h .badValue
  | .zone n => match zoneOf n with
    | some z => answer (Fld.list s.loadFields [z])
    | none => s.reply 0x1E h .badValue

def execLoadRead (h : Hdr) (sel : LoadSel) (s : State) : Out :=
  .next (s.take (.loadRead h sel) h 0x1E .any (·.loadRead h sel))

end Sys2Proof.Machine
end

