-- ==== Sys2Proof/Machine/FaultRequests.lean ====
section
/-! DEFINITION. The requests of the Fault Unit (spec/09): policy, acknowledge, clear, read. -/

namespace Sys2Proof.Machine

/-! ### FAULT_POLICY (R169, R170) -/

/-- The kinds that carry notify alone (R169). -/
def FaultKind.notifyOnly (k : FaultKind) : Bool := k = .donorLost || k = .operatorSuspended

/-- The kinds a code or "all" names; none for a code outside 1 to 21. -/
def kindsOf : NumSel → Option (List FaultKind)
  | .all => some allKinds
  | .one n => (kindOfCode n).map fun k => [k]

/-- A policy is written into a kind; with mute off, every action record of the kind is removed (R170). -/
def writePolicy (k : FaultKind) (p : Policy) (s : State) : Worked :=
  let s := s.updFu fun fu => { fu with policy := fu.policy.upd k.idx fun _ => p }
  if p.mute then (s, []) else removeActions (fun a => a.kind = k) s

/-- FAULT_POLICY with flags (R169); of two kinds refused the lower code is named (notes/assumptions/54.md). -/
def State.faultPolicy (s : State) (h : Hdr) (kind : NumSel) (notify mute latch : Option Bool) : State :=
  match kindsOf kind, notify, mute, latch with
  | some ks, some notify, some mute, some latch =>
    match if mute || latch then ks.find? (·.notifyOnly) else none with
    | some k => s.reply 0x28 h .badValue [.o1 k.code]
    | none => State.answer (eachWork ks (fun k => writePolicy k ⟨notify, mute, latch⟩) s) 0x28 h .done
  | _, _, _, _ => s.reply 0x28 h .badValue

def execFaultPolicy (h : Hdr) (kind : NumSel) (notify mute latch : Option Bool) (s : State) : Out :=
  .next (s.take (.faultPolicy h kind notify mute latch) h 0x28 .venue (·.faultPolicy h kind notify mute latch))

/-- The default policy of a kind (R167). -/
def defaultPolicy (k : FaultKind) : Policy := Vector.get defaultPolicies k.idx

/-- FAULT_POLICY "defaults" (R169). -/
def State.faultDefaults (s : State) (h : Hdr) (kind : NumSel) : State :=
  match kindsOf kind with
  | some ks => State.answer (eachWork ks (fun k => writePolicy k (defaultPolicy k)) s) 0x28 h .done
  | none => s.reply 0x28 h .badValue

def execFaultPolicyDefaults (h : Hdr) (kind : NumSel) (s : State) : Out :=
  .next (s.take (.faultPolicyDefaults h kind) h 0x28 .venue (·.faultDefaults h kind))

/-! ### FAULT_ACK (R178) -/

/-- The kind and source of a kind code and a number in the range of the kind's class. -/
def namedFault (kind source : Nat) : Option (FaultKind × Source) :=
  (kindOfCode kind).bind fun k => (sourceOf k.cls source).map (k, ·)

/-- The entries that a predicate names become ACKED. -/
def FaultUnit.ack (fu : FaultUnit) (sel : LogEntry → Bool) : FaultUnit :=
  { fu with log := fu.log.map fun e => if sel e then { e with acked := true } else e }

/-- FAULT_ACK (R178). -/
def State.faultAck (s : State) (h : Hdr) (name : FaultName) : State :=
  match name with
  | .all =>
    let fresh := (s.fu.log.filter fun e => !e.acked).length
    (s.updFu (·.ack fun _ => true)).reply 0x29 h .done [.o1 fresh]
  | .one kind source => match namedFault kind source with
    | none => s.reply 0x29 h .badValue
    | some (k, src) =>
      if (s.fu.find k src).isSome then (s.updFu (·.ack (·.names k src))).reply 0x29 h .done else s.reply 0x29 h .none

def execFaultAck (h : Hdr) (name : FaultName) (s : State) : Out :=
  .next (s.take (.faultAck h name) h 0x29 .venue (·.faultAck h name))

/-! ### FAULT_CLEAR (R179) -/

/-- An active condition stays, its occurrences 0, NEW, its latch released; every other entry is removed, and the
log-overflow flag cleared (R179). -/
def FaultUnit.clearEntry (fu : FaultUnit) (e : LogEntry) : FaultUnit :=
  if e.active then
    { fu with log := fu.log.map fun x =>
        if x.names e.kind e.source then { x with occurrences := 0, acked := false, latch := false } else x }
  else { fu with log := fu.log.filter fun x => !x.names e.kind e.source, overflow := false }

/-- One entry is cleared with its latch and, of a removed one, its OCCURRENCE record (R179). -/
def clearFault (e : LogEntry) (s : State) : Worked :=
  let s := s.updFu (·.clearEntry e)
  let w := if e.latch then writeLatch e.source s else (s, [])
  if e.active then w
  else thenWork w (removeActions fun a => a.kind = e.kind && a.source = e.source && a.occurrence)

/-- FAULT_CLEAR (R179): REMOVED is 00h, KEPT 01h. -/
def State.faultClear (s : State) (h : Hdr) (name : FaultName) : State :=
  match name with
  | .all =>
    let kept := (s.fu.log.filter (·.active)).length
    State.answer (eachWork s.fu.log clearFault s) 0x2A h .done [.o1 (s.fu.log.length - kept), .o1 kept]
  | .one kind source => match namedFault kind source with
    | none => s.reply 0x2A h .badValue
    | some (k, src) => match s.fu.find k src with
      | none => s.reply 0x2A h .none
      | some e => State.answer (clearFault e s) 0x2A h .done [.o1 (if e.active then 1 else 0)]

def execFaultClear (h : Hdr) (name : FaultName) (s : State) : Out :=
  .next (s.take (.faultClear h name) h 0x2A .venue (·.faultClear h name))

/-! ### FAULT_READ (R180) -/

/-- The fields of an entry (R171), with its place and whether an action record is held (R180): NEW is 00h. -/
def State.entryFields (s : State) (e : LogEntry) : List Fld :=
  [.o1 (s.fu.place e.kind e.source), .o1 e.kind.code, .o1 e.source.num, .flag e.active, .o2 e.occurrences, .word e.first,
   .word e.last, .word e.detail, .o1 (if e.acked then 1 else 0), .flag e.latch, .flag (s.fu.action e.kind e.source).isSome]

/-- Run clock, number of entries and the log-overflow flag (R180). -/
def State.logFields (s : State) : List Fld := [.word s.fu.clock, .o1 s.fu.log.length, .flag s.fu.overflow]

/-- An action record: CONDITION is 00h, OCCURRENCE 01h. -/
def ActionRec.fields (a : ActionRec) : List Fld := [.o1 a.kind.code, .o1 a.source.num, .o1 (if a.occurrence then 1 else 0)]

def Policy.fields (p : Policy) : List Fld := [.flag p.notify, .flag p.mute, .flag p.latch]

/-- FAULT_READ (R180); "policy" returns the action records in the order of their creation (notes/assumptions/54.md). -/
def State.faultRead (s : State) (h : Hdr) (sel : FaultSel) : State :=
  let entries (p : LogEntry → Bool) : List Fld := s.logFields ++ Fld.list s.entryFields (s.fu.log.filter p)
  match sel with
  | .all => s.reply 0x2B h .done (entries fun _ => true)
  | .kind n => match kindOfCode n with
    | some k => s.reply 0x2B h .done (entries (·.kind = k))
    | none => s.reply 0x2B h .badValue
  | .source cls n => match cls.bind (sourceOf · n) with
    | some src => s.reply 0x2B h .done (entries (·.source = src))
    | none => s.reply 0x2B h .badValue
  | .kindSource k n => match namedFault k n with
    | some (k, src) =>
      s.reply 0x2B h (if (s.fu.find k src).isSome then .done else .none) (entries (·.names k src))
    | none => s.reply 0x2B h .badValue
  | .policy =>
    s.reply 0x2B h .done (s.logFields ++ s.fu.policy.toList.flatMap Policy.fields ++ Fld.list ActionRec.fields s.fu.actions)

def execFaultRead (h : Hdr) (sel : FaultSel) (s : State) : Out :=
  .next (s.take (.faultRead h sel) h 0x2B .any (·.faultRead h sel))

end Sys2Proof.Machine
end

