-- ==== Sys2Proof/Machine/Port.lean ====
section
/-! DEFINITION. The Management Port (spec/10 R184 to R196): serial characters, frames and their CRC, the transmitter, and
the requests it answers itself. -/

namespace Sys2Proof.Machine

/-! ### Frames (R200) -/

/-- The start octet. -/
def startOctet : Octet := 0xD3

/-- One bit of the CRC division by 8005h. -/
def crcShift (c : BitVec 16) : BitVec 16 := if c.msb then (c <<< 1) ^^^ 0x8005 else c <<< 1

/-- An octet enters the CRC, most significant bit first. -/
def crcOctet (c : BitVec 16) (o : Octet) : BitVec 16 :=
  let c := c ^^^ (o.setWidth 16 <<< 8)
  crcShift (crcShift (crcShift (crcShift (crcShift (crcShift (crcShift (crcShift c)))))))

/-- The CRC of the length octets and the body (R200). -/
def crcOf (l : List Octet) : BitVec 16 := l.foldl crcOctet 0

/-- A body as a frame (R200). -/
def frameOf (body : List Octet) : List Octet :=
  let covered := octets2 body.length ++ body
  startOctet :: covered ++ octets2 (crcOf covered).toNat

/-! ### Receiver (R186 to R189) -/

/-- The body length that the two length octets of the assembly area give. -/
def areaLength (area : List Octet) : Nat :=
  match area with
  | _ :: hi :: lo :: _ => 256 * hi.toNat + lo.toNat
  | _ => 0

/-- The CRC of a whole frame in the assembly area holds. -/
def crcHolds (area : List Octet) : Bool :=
  let n := areaLength area
  octets2 (crcOf ((area.drop 1).take (n + 2))).toNat = (area.drop (n + 3)).take 2

/-- The receiver hunts with an empty assembly area. -/
def Receiver.hunting (r : Receiver) : Receiver := { r with state := .hunt, area := [] }

/-- A checked frame is offered to the input buffer: full, it is discarded and counted (R189). -/
def Port.offer (m : Port) (body : List Octet) : Port :=
  if m.input.length < Config.inputCapacity then { m with input := m.input ++ [body] } else m.countBad

/-- The receiver stores an octet and goes to a state. -/
def Port.store (m : Port) (o : Octet) (st : RxState) : Port :=
  { m with rx := { m.rx with area := m.rx.area ++ [o], state := st } }

/-- An octet at the frame logic: the port after it, and the octets to take again where a frame is discarded (R188). -/
def Port.octet (m : Port) (o : Octet) : Port × List Octet :=
  let area := m.rx.area ++ [o]
  let n := areaLength area
  match m.rx.state with
  | .hunt => if o = startOctet then (m.store o .length, []) else (m, [])
  | .length =>
    if area.length < 3 then (m.store o .length, [])
    else if 4 ≤ n && n ≤ 1020 then (m.store o .body, [])
    else ({ m.countBad with rx := m.rx.hunting }, area.drop 1)
  | .body => (m.store o (if area.length < n + 3 then .body else .check), [])
  | .check =>
    if area.length < n + 5 then (m.store o .check, [])
    else if crcHolds area then (({ m with rx := m.rx.hunting } : Port).offer ((area.drop 3).take n), [])
    else ({ m.countBad with rx := m.rx.hunting }, area.drop 1)

/-- Octets at the frame logic, in order; those of a discarded frame are taken again before the rest (R188). -/
def Port.feed : Nat → List Octet → Port → Port
  | 0, _, m => m
  | n + 1, l, m =>
    match l with
    | [] => m
    | o :: rest => let r := m.octet o; Port.feed n (r.2 ++ rest) r.1

/-- Steps that suffice for an octet: a discard takes again at most the octets of the area, each time one fewer. -/
def Port.feedBound (m : Port) : Nat := (m.rx.area.length + 2) * (m.rx.area.length + 2)

/-- The majority of three samples. -/
def majority (a b c : Bool) : Bool := (a && b) || (b && c) || (a && c)

/-- Sample `j` of bit period `i`: 16 samples a bit (R186). -/
def sampleOf (l : List Bool) (i j : Nat) : Bool := (l[16 * i + j]?).getD true

/-- The value of bit period `i`: the majority of samples 8, 9 and 10 (R186). -/
def bitOf (l : List Bool) (i : Nat) : Bool := majority (sampleOf l i 8) (sampleOf l i 9) (sampleOf l i 10)

/-- The data octet of a character: bit periods 1 to 8, least significant bit first (R185, R186). -/
def dataOctet (l : List Bool) : Octet := BitVec.ofNat 8 (bits ((List.range 8).map fun i => bitOf l (i + 1)))

/-- What the sampling makes of a character: octet and stop bit; none for a start bit that is rejected, fewer than 2 of
samples 3, 5 and 7 being low (R186). -/
def charOf : RxChar → Option (Octet × Bool)
  | .framed o stop => some (o, stop)
  | .sampled l =>
    if majority (!sampleOf l 0 3) (!sampleOf l 0 5) (!sampleOf l 0 7) then some (dataOctet l, bitOf l 9) else none

/-- A framing error abandons the frame in progress and counts it; in HUNT the character alone is discarded (R186). -/
def Port.framingError (m : Port) : Port := if m.rx.state = .hunt then m else { m.countBad with rx := m.rx.hunting }

/-- A character (R186, R188). It begins at a change from high to low, so a wait for the high line is over (R187). -/
def Port.character (m : Port) (c : RxChar) : Port :=
  let m := { m with rx := { m.rx with awaitHigh := false } }
  match charOf c with
  | none => m
  | some (o, stop) => if stop then Port.feed m.feedBound [o] m else m.framingError

/-- The receiver listens: start-up has ended (R198). -/
def State.listening (s : State) : Bool := !s.mp.startUp

def execCharacterReceived (c : RxChar) (s : State) : Out :=
  .next (s.unheld fun s => if s.listening then s.updMp (·.character c) else s)

/-- A break: HUNT, an empty assembly area, and a wait for the high line; nothing is counted (R187). -/
def Port.breakSeen (m : Port) : Port := { m with rx := { state := .hunt, area := [], awaitHigh := true } }

def execBreakDetected (s : State) : Out :=
  .next (s.unheld fun s => if s.listening then s.updMp (·.breakSeen) else s)

/-! ### Transmitter (R191, R192) -/

/-- The octets of fields. -/
def fieldOctets (l : List Fld) : List Octet := l.flatMap Fld.octets

/-- The number of segments of a reply (R191). -/
def Reply.segments (r : Reply) : Nat := max 1 (((fieldOctets r.fields).length + 1014) / Config.segmentOctets)

/-- The body of the next segment of a reply (R191, R201). -/
def Reply.body (r : Reply) : List Octet :=
  octets1 r.kind ++ octets2 r.tag.toNat ++ octets1 r.result.octet ++ octets1 (r.segments - (r.segment + 1)) ++
    ((fieldOctets r.fields).drop (Config.segmentOctets * r.segment)).take Config.segmentOctets

/-- The body of a notice (R193, R201): its tag is 0. -/
def Notice.body (n : Notice) : List Octet := octets1 n.kind.octet ++ [0, 0, n.seq] ++ fieldOctets n.fields

/-- The transmitter starts a frame: the next segment of the head reply, or else the head notice, which leaves its queue
(R192). -/
def Port.startFrame (m : Port) : Port :=
  match m.replies with
  | r :: _ => { m with tx := some ⟨frameOf r.body, true⟩ }
  | [] => match m.notices with
    | n :: rest => { m with tx := some ⟨frameOf n.body, false⟩, notices := rest }
    | [] => m

/-- FRAME_TRANSMIT_START: not while sending, nor while HOLD is asserted, in start-up, or when a warm reset is due (R192,
R196, R198). -/
def State.transmitStart (s : State) : State :=
  if s.mp.tx.isNone && !s.mp.hold && !s.mp.startUp && s.mp.warm ≠ .due then s.updMp (·.startFrame) else s

def execFrameTransmitStart (s : State) : Out := .next (s.unheld (·.transmitStart))

/-- The frame being sent ends: after its last segment a reply leaves the list; after the DONE reply of a RESET the warm reset
is due (R192, R196). -/
def Port.endFrame (m : Port) : Port :=
  match m.tx with
  | none => m
  | some t =>
    let m := { m with tx := none }
    if !t.isReply then m
    else match m.replies with
      | [] => m
      | r :: rest =>
        if r.segment + 1 < r.segments then { m with replies := { r with segment := r.segment + 1 } :: rest }
        else { m with replies := rest, warm := if r.isReset then .due else m.warm }

def execFrameTransmitEnd (s : State) : Out := .next (s.unheld fun s => s.updMp (·.endFrame))

/-- HOLD_INPUT_CHANGE: the pin takes its level (R192). -/
def execHoldInputChange (asserted : Bool) (s : State) : Out := .next (s.updMp fun m => { m with hold := asserted })

/-! ### Pins out -/

/-- READY is high while the buffer has room, except in start-up and while the RESET pin is asserted (R189, R198). -/
def State.readyPin (s : State) : Bool :=
  !s.mp.pinAsserted && !s.mp.startUp && s.mp.input.length < Config.inputCapacity

/-- The line out: the octets of the frame being sent, or none for the high line (R192, R198). -/
def State.lineOut (s : State) : Option (List Octet) := if s.mp.pinAsserted then none else s.mp.tx.map (·.octets)

/-! ### Requests of MP (R190, R194 to R196) -/

/-- BAD_KIND_REQUEST: a body whose kind is no request kind is refused BAD_KIND with the reply kind 80h and the kind octet
received (R190 check 1, R191). -/
def State.badKind (s : State) (h : Hdr) (kind : Nat) : State :=
  if s.canTake then
    (s.updMp (·.dropTaken (.badKindRequest h kind))).reply 0 h .badKind [.o1 kind]
  else s

def execBadKindRequest (h : Hdr) (kind : Nat) (s : State) : Out := .next (s.badKind h kind)

/-- The number of units in a state. -/
def State.unitsIn (s : State) (st : UnitState) : Nat := ((indices 48).filter fun u => (s.unit u).state = st).length

/-- The fields of STATUS (R194). -/
def State.statusFields (s : State) : List Fld :=
  [.word s.fu.clock, .o1 s.ps.active.val, .o1 ((s.ps.pending.map (·.val)).getD 0xFE), .o1 s.inFlight, .o1 s.me.queue.length,
   .flag s.fu.overflow, .flag s.mp.noticeOverflow, .o2 s.mp.badFrames, .o1 (s.unitsIn .absent), .o1 (s.unitsIn .configuring),
   .o1 (s.unitsIn .serving), .o1 (s.unitsIn .failed)]

/-- STATUS (R194): the bad-frame count and the notice-overflow flag are cleared once reported. -/
def State.status (s : State) (h : Hdr) : State :=
  (s.reply 0x2C h .done s.statusFields).updMp fun m => { m with badFrames := 0, noticeOverflow := false }

def execStatus (h : Hdr) (s : State) : Out := .next (s.take (.status h) h 0x2C .any (·.status h))

def LineRate.octet : LineRate → Nat
  | .r115200 => 0 | .r460800 => 1 | .r921600 => 2 | .r1843200 => 3

/-- Part code, revision number and line rate (R205). -/
def State.identFields (s : State) : List Fld := [.o2 Config.partCode, .o1 Config.revision, .o1 s.mp.rate.octet]

def execIdent (h : Hdr) (s : State) : Out :=
  .next (s.take (.ident h) h 0x2D .any fun s => s.reply 0x2D h .done s.identFields)

/-- An accepted RESET (R196): taking closes and the DONE reply joins the list, marked as the one the reset waits for. -/
def Port.acceptReset (m : Port) (h : Hdr) : Port :=
  { m with taking := false, warm := .accepted,
           replies := m.replies ++ [{ kind := 0xAE, tag := h.tag, result := .done, fields := [], isReset := true }] }

/-- RESET (R196): a scope other than WARM is refused. -/
def State.requestReset (s : State) (h : Hdr) (warm : Bool) : State :=
  if warm then s.updMp (·.acceptReset h) else s.reply 0x2E h .badValue

def execReset (h : Hdr) (warm : Bool) (s : State) : Out :=
  .next (s.take (.reset h warm) h 0x2E .venue (·.requestReset h warm))

end Sys2Proof.Machine
end

