-- ==== Sys2Proof/Machine/Resets.lean ====
section
/-! DEFINITION. Resets, start-up and the run clock (spec/10 R196 to R198, spec/09 R181), with each block's warm reset. -/

namespace Sys2Proof.Machine

/-- The fields of a READY notice (R197, R198, R205): the cause is COLD 00h or WARM 01h. -/
def State.readyFields (s : State) (warm : Bool) : List Fld :=
  [.o1 (if warm then 1 else 0)] ++ s.identFields ++ [.word s.fu.clock]

/-! ### Start-up (R198) -/

/-- The end of start-up (R198): the receiver hunts, READY is posted, taking opens, the evaluation timer starts. -/
def State.startUpEnd (s : State) : State :=
  if s.mp.startUp then
    let s := (s.updMp fun m => { m with rx := {}, startUp := false }).post .ready (s.readyFields false)
    (s.updMp fun m => { m with taking := true }).updLm fun m => { m with timer := some m.period }
  else s

def execStartUpEnd (s : State) : Out := .next (s.unheld (·.startUpEnd))

/-- RESET_PIN_ASSERTED: every block is held and what is in progress is abandoned, a warm reset included (R198). -/
def execResetPinAsserted (s : State) : Out :=
  .next (s.updMp fun m => { m with pinAsserted := true, tx := none, warm := .idle })

/-! ### Cold reset (R198) -/

/-- The line rate of the two straps (R185). -/
def rateOf (strap1 strap0 : Bool) : LineRate :=
  match strap1, strap0 with
  | false, false => .r115200
  | false, true => .r460800
  | true, false => .r921600
  | true, true => .r1843200

/-- COLD_RESET: every item takes its cold reset value, the line rate that of the straps; the input pins keep their levels,
and each donor port monitor begins to qualify its lock input (R198, spec/01 R17, notes/assumptions/2.md). -/
def State.coldReset (s : State) (strap1 strap0 : Bool) : State :=
  { State.reset with
    pending := s.pending
    tu := { State.reset.tu with
      monitors := s.tu.monitors.map fun m => DonorMonitor.qualify { lockInput := m.lockInput } }
    mp := { State.reset.mp with rate := rateOf strap1 strap0, hold := s.mp.hold } }

def execColdReset (strap1 strap0 : Bool) (s : State) : Out := .next (s.coldReset strap1 strap0)

/-! ### Warm reset, block by block -/

/-- TU (spec/01 R20): FAULT_ACTION is removed; the condition views become inactive (spec/09 R183). -/
def Tenancy.warm (t : Tenancy) : Tenancy :=
  { t with
    feeds := t.feeds.map fun r => { r with mutes := { r.mutes with faultAction := false } }
    licenceView := Vector.replicate 32 false
    donorView := Vector.replicate 8 false
    suspendView := Vector.replicate 8 false }

/-- LC (spec/03 R61, R39): an OFF link stays OFF; another is restarted, its generation kept. -/
def LinkRec.warm (r : LinkRec) : LinkRec :=
  if r.state = .off then { generation := r.generation }
  else { state := .preamble, generation := r.generation, noiseTimer := some noiseMs }

/-- UM (spec/04 R62, R90): a unit record. -/
def UnitRec.warm (r : UnitRec) : UnitRec :=
  { lastSerial := r.lastSerial, atten := r.atten, threshold := r.threshold, eligible := r.eligible,
    mutes := { r.mutes with faultAction := false, linkAction := false } }

/-- UM (spec/04 R90): the poll interval is kept, transactions and relay queues end. -/
def UnitMgr.warm (m : UnitMgr) : UnitMgr :=
  { units := m.units.map UnitRec.warm, arbiters := Vector.replicate 12 {}, pollInterval := m.pollInterval }

/-- LE (spec/05 R109): the overload limit is kept. -/
def LevelEngine.warm (e : LevelEngine) : LevelEngine := { limit := e.limit }

/-- LM (spec/06 R110, R113, R115): P and k are kept, and the evaluation timer is started afresh. -/
def LoadMonitor.warm (m : LoadMonitor) : LoadMonitor := { period := m.period, shift := m.shift, timer := some m.period }

/-- PS (spec/07 R139): the pending plan becomes absent. -/
def PlanStore.warm (p : PlanStore) : PlanStore := { p with pending := none }

/-- ME (spec/08 R166, spec/07 R139): queue and blends end, the homes are those of the active plan. -/
def MigrationEngine.warm (m : MigrationEngine) (homes : Tbl Home 48) : MigrationEngine := { homes := homes, params := m.params }

/-- SE (spec/06 R119): the working flag is formed again, and the balance timer started afresh. -/
def SpreadEngine.warm (working : Bool) (interval : Nat) : SpreadEngine :=
  { working := working, timer := if working then some interval else none }

/-- FU (spec/09 R183): entries inactive, the action list empty. -/
def FaultUnit.warm (f : FaultUnit) : FaultUnit :=
  { f with log := f.log.map fun e => { e with active := false }, actions := [] }

/-- MP (R197): buffers, lists and queue emptied; taking opens. -/
def Port.afterWarm (m : Port) : Port :=
  { m with rx := {}, input := [], replies := [], owed := 0, notices := [], tx := none, taking := true, warm := .idle }

/-- Every block at its warm reset. -/
def State.warmBlocks (s : State) : State :=
  { s with
    tu := s.tu.warm
    lc := s.lc.map LinkRec.warm
    um := s.um.warm
    le := s.le.warm
    lm := s.lm.warm
    se := SpreadEngine.warm s.mayWork s.balanceMs
    ps := s.ps.warm
    me := s.me.warm s.activeBank.homes
    fu := s.fu.warm
    mp := s.mp.afterWarm }

/-- The conditions of the Tenancy Unit evaluated again after a warm reset (spec/01 R20). -/
def judgeTenancy (s : State) : Worked :=
  thenWork (thenWork (eachWork ((indices 32).filter fun f => (s.feed f).state = .enabled) judgeLicence s)
    (eachWork (indices 8) judgeDonor)) (eachWork (indices 8) judgeSuspension)

/-- Every feed and unit, as the blocks resume (spec/01 R20, spec/07 R139, spec/04 R74). -/
def everyWork : List Work :=
  (indices 32).map .combiner ++ (indices 48).map .mixer ++ (indices 48).map .bands

/-- A warm reset (R196, R197), in the order of notes/assumptions/29.md. -/
def State.warmReset (s : State) : State :=
  let s := s.warmBlocks.post .ready (s.warmBlocks.readyFields true)
  let w := judgeTenancy s
  settle (w.1, w.2 ++ everyWork)

/-- WARM_RESET: made when the DONE reply of an accepted RESET has been sent (R196). -/
def execWarmReset (s : State) : Out :=
  .next (s.unheld fun s => if s.mp.warm = .due then s.warmReset else s)

/-! ### The run clock (spec/09 R181) -/

/-- One millisecond at a link: many frames (notes/assumptions/48.md). -/
def LinkRec.tick (r : LinkRec) : LinkRec :=
  { r with alignTimer := tickTimer r.alignTimer, noiseTimer := tickTimer r.noiseTimer, numberWait := tickTimer r.numberWait,
           slot := none }

/-- One millisecond at a transaction. -/
def Txn.tick (t : Txn) : Txn := { t with window := tickTimer t.window, spacing := tickTimer t.spacing }

/-- RUN_CLOCK_TICK: the run clock rises by 1, wrapping, and every running timer has 1 ms less to run
(notes/assumptions/4.md). -/
def State.tick (s : State) : State :=
  { s with
    fu := { s.fu with clock := s.fu.clock + 1 }
    tu := { s.tu with monitors := s.tu.monitors.map fun m => { m with qual := tickTimer m.qual } }
    lc := s.lc.map LinkRec.tick
    um := { s.um with
      units := s.um.units.map fun r => { r with pollTimer := tickTimer r.pollTimer }
      arbiters := s.um.arbiters.map fun a => { a with txn := a.txn.map Txn.tick } }
    lm := { s.lm with timer := tickTimer s.lm.timer }
    se := { s.se with timer := tickTimer s.se.timer }
    me := { s.me with
      retry := tickTimer s.me.retry
      blends := s.me.blends.map fun b => b.map fun b => { b with timer := b.timer - 1 } } }

def execRunClockTick (s : State) : Out := .next (s.unheld (·.tick))

end Sys2Proof.Machine
end

