-- ==== Sys2Proof/Machine/Dispatch.lean ====
section
/-! DEFINITION. One arm per command: each calls its meaning. -/

namespace Sys2Proof.Machine

/-- The effect of a command on everything but the queue. -/
def exec (i : Instr) (s : State) : Host.Outcome State Fault Refusal :=
  match i with
  | .operatorSet h op st label nc gl => Sys2Proof.Machine.execOperatorSet h op st label nc gl s
  | .operatorRead h sel => Sys2Proof.Machine.execOperatorRead h sel s
  | .bandSet h slot window => Sys2Proof.Machine.execBandSet h slot window s
  | .bandRead h => Sys2Proof.Machine.execBandRead h s
  | .licenceSet h op slot blocks => Sys2Proof.Machine.execLicenceSet h op slot blocks s
  | .feedDefine h feed op slot first count port lane => Sys2Proof.Machine.execFeedDefine h feed op slot first count port lane s
  | .feedEnableOn h feed => Sys2Proof.Machine.execFeedEnableOn h feed s
  | .feedEnableOff h feed => Sys2Proof.Machine.execFeedEnableOff h feed s
  | .feedMuteOn h feed => Sys2Proof.Machine.execFeedMuteOn h feed s
  | .feedMuteOff h feed => Sys2Proof.Machine.execFeedMuteOff h feed s
  | .feedRelease h feed => Sys2Proof.Machine.execFeedRelease h feed s
  | .feedRead h sel => Sys2Proof.Machine.execFeedRead h sel s
  | .lockInputChange port high => Sys2Proof.Machine.execLockInputChange port high s
  | .donorPortLocked port => Sys2Proof.Machine.execDonorPortLocked port s
  | .donorPortUnlocked port => Sys2Proof.Machine.execDonorPortUnlocked port s
  | .zoneDefineOn h zone label => Sys2Proof.Machine.execZoneDefineOn h zone label s
  | .zoneDefineOff h zone => Sys2Proof.Machine.execZoneDefineOff h zone s
  | .zoneRead h sel => Sys2Proof.Machine.execZoneRead h sel s
  | .routeAdd h feed zone level uplink => Sys2Proof.Machine.execRouteAdd h feed zone level uplink s
  | .routeLevel h feed zone level uplink => Sys2Proof.Machine.execRouteLevel h feed zone level uplink s
  | .routeRemove h feed zone => Sys2Proof.Machine.execRouteRemove h feed zone s
  | .routeRead h sel => Sys2Proof.Machine.execRouteRead h sel s
  | .linkEnable h link => Sys2Proof.Machine.execLinkEnable h link s
  | .linkDisable h link => Sys2Proof.Machine.execLinkDisable h link s
  | .linkRestart h link => Sys2Proof.Machine.execLinkRestart h link s
  | .linkLoopbackOn h link => Sys2Proof.Machine.execLinkLoopbackOn h link s
  | .linkLoopbackOff h link => Sys2Proof.Machine.execLinkLoopbackOff h link s
  | .linkRead h sel => Sys2Proof.Machine.execLinkRead h sel s
  | .preambleEnd link => Sys2Proof.Machine.execPreambleEnd link s
  | .markerReceived link m => Sys2Proof.Machine.execMarkerReceived link m s
  | .loopbackTestWord link word => Sys2Proof.Machine.execLoopbackTestWord link word s
  | .alignmentTimerExpiry link => Sys2Proof.Machine.execAlignmentTimerExpiry link s
  | .noiseWindowExpiry link => Sys2Proof.Machine.execNoiseWindowExpiry link s
  | .numberWordReturn link wordLink gen count => Sys2Proof.Machine.execNumberWordReturn link wordLink gen count s
  | .numberTimeout link => Sys2Proof.Machine.execNumberTimeout link s
  | .transactionStart link => Sys2Proof.Machine.execTransactionStart link s
  | .requestWordSent link => Sys2Proof.Machine.execRequestWordSent link s
  | .echoReceived link word => Sys2Proof.Machine.execEchoReceived link word s
  | .replyWordReceived link word => Sys2Proof.Machine.execReplyWordReceived link word s
  | .replyWindowExpiry link => Sys2Proof.Machine.execReplyWindowExpiry link s
  | .nextAttempt link => Sys2Proof.Machine.execNextAttempt link s
  | .pollTimerExpiry unit => Sys2Proof.Machine.execPollTimerExpiry unit s
  | .pollSet h interval => Sys2Proof.Machine.execPollSet h interval s
  | .unitSet h unit atten threshold eligible => Sys2Proof.Machine.execUnitSet h unit atten threshold eligible s
  | .unitMuteOn h unit => Sys2Proof.Machine.execUnitMuteOn h unit s
  | .unitMuteOff h unit => Sys2Proof.Machine.execUnitMuteOff h unit s
  | .unitRelay h link pos payload => Sys2Proof.Machine.execUnitRelay h link pos payload s
  | .unitRead h sel => Sys2Proof.Machine.execUnitRead h sel s
  | .combinerSample feed samples => Sys2Proof.Machine.execCombinerSample feed samples s
  | .mixerSample unit samples => Sys2Proof.Machine.execMixerSample unit samples s
  | .levelSet h limit => Sys2Proof.Machine.execLevelSet h limit s
  | .levelRead h sel => Sys2Proof.Machine.execLevelRead h sel s
  | .busyWindowEnd unit window => Sys2Proof.Machine.execBusyWindowEnd unit window s
  | .evaluationPeriodExpiry => Sys2Proof.Machine.execEvaluationPeriodExpiry s
  | .loadSet h period shift => Sys2Proof.Machine.execLoadSet h period shift s
  | .loadRead h sel => Sys2Proof.Machine.execLoadRead h sel s
  | .hotZoneRound => Sys2Proof.Machine.execHotZoneRound s
  | .balanceTimerExpiry => Sys2Proof.Machine.execBalanceTimerExpiry s
  | .planWrite h bank mode homes marks => Sys2Proof.Machine.execPlanWrite h bank mode homes marks s
  | .planRead h sel => Sys2Proof.Machine.execPlanRead h sel s
  | .planSelect h bank => Sys2Proof.Machine.execPlanSelect h bank s
  | .planSelectNone h => Sys2Proof.Machine.execPlanSelectNone h s
  | .zoneHold h zone => Sys2Proof.Machine.execZoneHold h zone s
  | .zoneRelease h zone => Sys2Proof.Machine.execZoneRelease h zone s
  | .move h unit target force => Sys2Proof.Machine.execMove h unit target force s
  | .moveAbort h unit => Sys2Proof.Machine.execMoveAbort h unit s
  | .spreadSet h auto conc depth step balance => Sys2Proof.Machine.execSpreadSet h auto conc depth step balance s
  | .queueRead h => Sys2Proof.Machine.execQueueRead h s
  | .retryTimerExpiry => Sys2Proof.Machine.execRetryTimerExpiry s
  | .blendStepExpiry unit => Sys2Proof.Machine.execBlendStepExpiry unit s
  | .faultPolicy h kind notify mute latch => Sys2Proof.Machine.execFaultPolicy h kind notify mute latch s
  | .faultPolicyDefaults h kind => Sys2Proof.Machine.execFaultPolicyDefaults h kind s
  | .faultAck h name => Sys2Proof.Machine.execFaultAck h name s
  | .faultClear h name => Sys2Proof.Machine.execFaultClear h name s
  | .faultRead h sel => Sys2Proof.Machine.execFaultRead h sel s
  | .characterReceived c => Sys2Proof.Machine.execCharacterReceived c s
  | .breakDetected => Sys2Proof.Machine.execBreakDetected s
  | .badKindRequest h kind => Sys2Proof.Machine.execBadKindRequest h kind s
  | .frameTransmitStart => Sys2Proof.Machine.execFrameTransmitStart s
  | .frameTransmitEnd => Sys2Proof.Machine.execFrameTransmitEnd s
  | .holdInputChange asserted => Sys2Proof.Machine.execHoldInputChange asserted s
  | .status h => Sys2Proof.Machine.execStatus h s
  | .ident h => Sys2Proof.Machine.execIdent h s
  | .reset h warm => Sys2Proof.Machine.execReset h warm s
  | .warmReset => Sys2Proof.Machine.execWarmReset s
  | .coldReset strap1 strap0 => Sys2Proof.Machine.execColdReset strap1 strap0 s
  | .startUpEnd => Sys2Proof.Machine.execStartUpEnd s
  | .runClockTick => Sys2Proof.Machine.execRunClockTick s
  | .resetPinAsserted => Sys2Proof.Machine.execResetPinAsserted s

end Sys2Proof.Machine
end

