-- ==== Sys2Proof/Machine/Step.lean ====
section
/-! DEFINITION. The step: the command at the front of the queue, or on an empty queue the head frame of the input buffer. -/

namespace Sys2Proof.Machine

/-- On an empty queue MP takes the frame at the head of its input buffer, when it may (spec/10 R190); else the part idles
(notes/assumptions/7.md). -/
def idle (s : State) : Host.Outcome State Fault Refusal :=
  match s.mp.input with
  | [] => .next s
  | body :: _ => if s.canTake then exec (decodeBody body) s else .next s

/-- One step: the command at the front of the queue runs on the queue's rest. -/
def step (s : State) : Host.Outcome State Fault Refusal :=
  match s.pending with
  | [] => idle s
  | i :: rest => exec i { s with pending := rest }

/-- The command that a table word spells is put at the front of the queue. The table gives its rows no bits, so no word
spells one (notes/assumptions/8.md). -/
def State.withFetchWord (s : State) (nbits w : Nat) : State :=
  match decodeTableWord nbits w with
  | some i => { s with pending := i :: s.pending }
  | none => s

end Sys2Proof.Machine
end

