-- ==== Sys2Proof/Safety.lean ====
section
/-! DEFINITION. The terms in which claims speak: which commands are requests and who may make them (spec/10 R190, R206),
what follow-up work never writes, and the laws that every state of a safe run keeps. -/

namespace Sys2Proof.Machine

/-! ### Requests (R190, R206) -/

/-- The header and the kind octet of a command that a frame carries; none for an event. -/
def kindOf : Instr → Option (Hdr × Nat)
  | .operatorSet h .. => some (h, 0x01) | .operatorRead h _ => some (h, 0x02)
  | .bandSet h .. => some (h, 0x03) | .bandRead h => some (h, 0x04)
  | .licenceSet h .. => some (h, 0x05) | .feedDefine h .. => some (h, 0x06)
  | .feedEnableOn h _ | .feedEnableOff h _ => some (h, 0x07)
  | .feedMuteOn h _ | .feedMuteOff h _ => some (h, 0x08)
  | .feedRelease h _ => some (h, 0x09) | .feedRead h _ => some (h, 0x0A)
  | .zoneDefineOn h .. | .zoneDefineOff h _ => some (h, 0x0B)
  | .zoneRead h _ => some (h, 0x0C)
  | .routeAdd h .. => some (h, 0x0D) | .routeLevel h .. => some (h, 0x0E)
  | .routeRemove h .. => some (h, 0x0F) | .routeRead h _ => some (h, 0x10)
  | .linkEnable h _ => some (h, 0x11) | .linkDisable h _ => some (h, 0x12) | .linkRestart h _ => some (h, 0x13)
  | .linkLoopbackOn h _ | .linkLoopbackOff h _ => some (h, 0x14)
  | .linkRead h _ => some (h, 0x15)
  | .pollSet h _ => some (h, 0x16) | .unitSet h .. => some (h, 0x17)
  | .unitMuteOn h _ | .unitMuteOff h _ => some (h, 0x18)
  | .unitRelay h .. => some (h, 0x19) | .unitRead h _ => some (h, 0x1A)
  | .levelSet h _ => some (h, 0x1B) | .levelRead h _ => some (h, 0x1C)
  | .loadSet h .. => some (h, 0x1D) | .loadRead h _ => some (h, 0x1E)
  | .planWrite h .. => some (h, 0x1F) | .planRead h _ => some (h, 0x20)
  | .planSelect h _ | .planSelectNone h => some (h, 0x21)
  | .zoneHold h _ => some (h, 0x22) | .zoneRelease h _ => some (h, 0x23)
  | .move h .. => some (h, 0x24) | .moveAbort h _ => some (h, 0x25)
  | .spreadSet h .. => some (h, 0x26) | .queueRead h => some (h, 0x27)
  | .faultPolicy h .. | .faultPolicyDefaults h _ => some (h, 0x28)
  | .faultAck h _ => some (h, 0x29) | .faultClear h _ => some (h, 0x2A) | .faultRead h _ => some (h, 0x2B)
  | .status h => some (h, 0x2C) | .ident h => some (h, 0x2D) | .reset h _ => some (h, 0x2E)
  | .badKindRequest h k => some (h, k)
  | .lockInputChange .. | .donorPortLocked .. | .donorPortUnlocked .. | .preambleEnd .. | .markerReceived ..
  | .loopbackTestWord .. | .alignmentTimerExpiry .. | .noiseWindowExpiry .. | .numberWordReturn .. | .numberTimeout ..
  | .transactionStart .. | .requestWordSent .. | .echoReceived .. | .replyWordReceived .. | .replyWindowExpiry ..
  | .nextAttempt .. | .pollTimerExpiry .. | .combinerSample .. | .mixerSample .. | .busyWindowEnd ..
  | .evaluationPeriodExpiry | .hotZoneRound | .balanceTimerExpiry | .retryTimerExpiry | .blendStepExpiry ..
  | .characterReceived .. | .breakDetected | .frameTransmitStart | .frameTransmitEnd | .holdInputChange ..
  | .warmReset | .coldReset .. | .startUpEnd | .runClockTick | .resetPinAsserted => none

/-- Who may make a request of a kind (R206): the owning operator, the feed named, for kinds 07h, 08h and 0Dh to 0Fh; every
issuer for the reading kinds, zone holds, STATUS and IDENT; and the venue for the rest. -/
def rightOf : Instr → Right
  | .feedEnableOn _ f | .feedEnableOff _ f | .feedMuteOn _ f | .feedMuteOff _ f
  | .routeAdd _ f _ _ _ | .routeLevel _ f _ _ _ | .routeRemove _ f _ => .own f
  | .operatorRead .. | .bandRead .. | .feedRead .. | .zoneRead .. | .routeRead .. | .linkRead .. | .unitRead ..
  | .levelRead .. | .loadRead .. | .planRead .. | .queueRead .. | .faultRead .. | .status .. | .ident ..
  | .zoneHold .. | .zoneRelease .. => .any
  | _ => .venue

/-- The command is a request of a kind that the catalogue lists. -/
def isKnown (i : Instr) : Bool :=
  match i with
  | .badKindRequest .. => false
  | i => (kindOf i).isSome

/-- The owning block refuses a form octet beyond its rule's forms before its other checks; PLAN_WRITE judges its bank first
(spec/07 R130). -/
def formFirst : Instr → Bool
  | .planWrite .. => false
  | _ => true

/-- The header of a command; one that no host sends for an event. -/
def hdrOf (i : Instr) : Hdr := ((kindOf i).map (·.1)).getD { tag := 0, issuer := 0 }

/-- MP takes the request and hands it to its owning block: taking is open, and every check of MP passes (R190). -/
def State.passes (s : State) (i : Instr) : Bool :=
  s.canTake && (hdrOf i).lengthOk && (hdrOf i).formOk && s.admits (hdrOf i) (rightOf i)

/-- The state as the owning block finds it: the frame taken has left the input buffer. -/
def State.handed (s : State) (i : Instr) : State := s.updMp (·.dropTaken i)

/-- The request has been answered, and nothing else has changed but the input buffer. -/
def State.replied (s : State) (i : Instr) (r : Result) (fields : List Fld := []) : State :=
  (s.handed i).reply (((kindOf i).map (·.2)).getD 0) (hdrOf i) r fields

/-! ### What follow-up work and fault reports never write -/

/-- A feed record without what the Fault Unit writes in it (spec/09 R175, R176). -/
def FeedRec.still (r : FeedRec) : FeedRec := { r with mutes := { r.mutes with faultAction := false, faultLatch := false } }

/-- A unit record without what the Fault Unit writes in it, nor what R74 and R76 of spec/04 derive. -/
def UnitRec.still (r : UnitRec) : UnitRec :=
  { r with mutes := { issuerMute := r.mutes.issuerMute }, wanted := 0, configDue := false, configFailed := false,
           view := { r.view with bandUnsupported := false } }

/-- A combiner record as its sample path alone writes it. -/
def CombinerRec.still (c : CombinerRec) : CombinerRec := { saturations := c.saturations }

/-- A mixer record as its sample path alone writes it. -/
def MixerRec.still (m : MixerRec) : MixerRec := { clips := m.clips }

/-- The port without what the posting of notices writes. -/
def Port.still (m : Port) : Port := { m with notices := [], seq := 0, noticeOverflow := false }

/-- The state without what fault reports and follow-up work write: combiner and mixer figures, log and action list,
fault mutes, wanted band sets with config due and config failed, and notices. Two states that agree in this view differ
in those alone. -/
def State.still (s : State) : State :=
  { s with
    tu := { s.tu with feeds := s.tu.feeds.map FeedRec.still }
    um := { s.um with units := s.um.units.map UnitRec.still }
    le := { combiners := s.le.combiners.map CombinerRec.still, mixers := s.le.mixers.map MixerRec.still, limit := s.le.limit }
    fu := { policy := s.fu.policy, clock := s.fu.clock }
    mp := s.mp.still }

/-- The view `still` without the migrations in hand: queue, retry timer and blend records, which a start pass writes. -/
def State.calm (s : State) : State := { s.still with me := { homes := s.me.homes, params := s.me.params } }

/-! ### Changes that a rule makes to many records at once -/

/-- Feeds with a property take a change. -/
def State.mapFeeds (s : State) (p : FeedId → Bool) (g : FeedRec → FeedRec) : State :=
  { s with tu := { s.tu with feeds := Tbl.make fun f => if p f then g (s.feed f) else s.feed f } }

/-- Units with a property take a change. -/
def State.mapUnits (s : State) (p : UnitId → Bool) (g : UnitId → UnitRec → UnitRec) : State :=
  { s with um := { s.um with units := Tbl.make fun u => if p u then g u (s.unit u) else s.unit u } }

/-- The feed is not FREE and belongs to the operator. -/
def State.belongs (s : State) (o : OpId) (f : FeedId) : Bool :=
  (s.feed f).state ≠ .free && (s.feed f).operator = some o

/-- The feed is not FREE and has its lane on the donor port. -/
def State.onPort (s : State) (p : PortId) (f : FeedId) : Bool := (s.feed f).state ≠ .free && (s.feed f).port = p

/-- What the link-down report does to a link's arbiter and units (spec/03 R52, spec/04 R83), migrations apart. -/
def State.chainLost (s : State) (l : LinkId) : State :=
  let t := ((s.endTxn l).endRelays l).mapUnits (fun u => linkOf u = l && (s.unit u).state ≠ .absent) fun _ => UnitRec.lost
  let measure (u : UnitId) : MeasureRec :=
    if linkOf u = l && s.serving u then { s.measure u with measuring := false } else s.measure u
  t.updLm fun m => { m with measures := Tbl.make measure }

/-- The commands of the characters of octets, each with its stop bit, one after the other. -/
def receive (l : List Octet) (s : State) : Out :=
  l.foldl (fun r o => match r with
    | .next t => exec (.characterReceived (.framed o true)) t
    | r => r) (.next s)

/-! ### Laws of a safe run -/

/-- Tenancy (spec/01 R3, R4, R7, R9 to R12, R17, R18): a feed that is not FREE has an operator that is not UNDEFINED and a present band
slot; two such feeds have different lanes; two ENABLED feeds of one slot share no block; LICENCE_REVOKED stands exactly on the
ENABLED feeds with a block outside their licence, OPERATOR_SUSPENDED and DONOR_DOWN on the feeds that are not FREE exactly where
the operator is SUSPENDED and the port UNLOCKED; and the three conditions of the Tenancy Unit are active exactly then. -/
def TenancyLaw (s : State) : Prop :=
  (∀ f, (s.feed f).state ≠ .free →
    (∃ o, (s.feed f).operator = some o ∧ (s.op o).state ≠ .undefined) ∧ (s.band (s.feed f).slot).isSome = true) ∧
  (∀ f g, f ≠ g → (s.feed f).state ≠ .free → (s.feed g).state ≠ .free →
    (s.feed f).port = (s.feed g).port → (s.feed f).lane ≠ (s.feed g).lane) ∧
  (∀ f g, f ≠ g → (s.feed f).state = .enabled → (s.feed g).state = .enabled → (s.feed f).overlaps (s.feed g) = false) ∧
  (∀ f, (s.feed f).mutes.licenceRevoked = ((s.feed f).state = .enabled && s.unlicensed f ≠ 0) ∧
    Vector.get s.tu.licenceView f = ((s.feed f).state = .enabled && s.unlicensed f ≠ 0)) ∧
  (∀ f, (s.feed f).state ≠ .free →
    (∀ o, (s.feed f).operator = some o → (s.feed f).mutes.operatorSuspended = decide ((s.op o).state = .suspended)) ∧
    (s.feed f).mutes.donorDown = !(s.monitor (s.feed f).port).locked) ∧
  (∀ o, Vector.get s.tu.suspendView o = decide ((s.op o).state = .suspended)) ∧
  ∀ p, Vector.get s.tu.donorView p =
    (!(s.monitor p).locked && (indices 32).any (s.onPort p))

/-- A way of the set `i` holds the route. -/
def State.holds (s : State) (i : Fin 64) (r : Route) : Prop :=
  (s.routeSet i).way0 = some r ∨ (s.routeSet i).way1 = some r

/-- Route table (spec/02 R24, R26, R27, R30): a route stands in the set of its key, and names a feed that is not FREE and a
defined zone; the ways of a set have different keys; and in one zone no two feeds of one operator and band slot meet. -/
def RouteLaw (s : State) : Prop :=
  (∀ i r, s.holds i r →
    (s.feed r.feed).state ≠ .free ∧ (s.zone r.zone).defined = true ∧ s.keySet r.feed r.zone = some i) ∧
  (∀ i r q, (s.routeSet i).way0 = some r → (s.routeSet i).way1 = some q → r.hasKey q.feed q.zone = false) ∧
  ∀ i j r q, s.holds i r → s.holds j q → r.zone = q.zone → (s.feed r.feed).operator = (s.feed q.feed).operator →
    (s.feed r.feed).slot = (s.feed q.feed).slot → r.feed = q.feed

/-- The AUTO migrations with origin `z`, queued and in flight (spec/06 R121). -/
def State.autoFrom (s : State) (z : ZoneId) : Nat :=
  (s.me.queue.filter fun e => e.source = .auto && e.origin = some z).length +
    ((indices 48).filter fun u => s.home u = some z && (s.blend u).any (·.source = .auto)).length

/-- Migrations (spec/08 R146 to R164): the spread parameters are in range; a queued unit is queued once, is not blending and
has its origin for home and another target; a blending unit is SERVING, has another target than its home and a p below D,
above 0 in REVERSE; at most C units blend; no held zone is origin or target of a queued AUTO move or of a FORWARD AUTO blend
(spec/07 R141); and one AUTO migration at most leaves a zone (spec/06 R121). -/
def MigrationLaw (s : State) : Prop :=
  (1 ≤ s.me.params.conc ∧ s.me.params.conc ≤ 8 ∧ 4 ≤ s.me.params.depth ∧ s.me.params.depth ≤ 30) ∧
  (s.me.queue.map (·.unit)).Nodup ∧
  (∀ e ∈ s.me.queue, s.blend e.unit = none ∧ e.origin = s.home e.unit ∧ e.target ≠ e.origin) ∧
  (∀ u b, s.blend u = some b →
    s.serving u = true ∧ b.target ≠ s.home u ∧ b.p < b.depth ∧ b.depth ≤ 30 ∧ (b.reverse = true → 0 < b.p)) ∧
  s.inFlight ≤ s.me.params.conc ∧
  (∀ z, (s.holdOf z).isSome = true →
    (∀ e ∈ s.me.queue, e.source = .auto → touches z e.origin e.target = false) ∧
    ∀ u b, s.blend u = some b → b.source = .auto → b.reverse = false → touches z (s.home u) b.target = false) ∧
  ∀ z, s.autoFrom z ≤ 1

/-- Layout (spec/02 R24, spec/07 R129 to R138): every home and blend target is zone 0 or a defined zone, no zone has more
than 16 live members, and the active plan and the pending plan are valid. -/
def LayoutLaw (s : State) : Prop :=
  (∀ u z, s.isMember u z = true → (s.zone z).defined = true) ∧
  (∀ z, s.liveCount z ≤ Config.zoneCapacity) ∧
  s.validate s.activeBank = none ∧
  ∀ n, s.ps.pending = some n → s.validate (s.bank n) = none

/-- Fault log (spec/09 R167, R169, R171 to R173): at most 32 entries, one for a kind and source at most, each source of its
kind's class; and the two kinds that carry notify alone neither mute nor latch. -/
def LogLaw (s : State) : Prop :=
  s.fu.log.length ≤ Config.logCapacity ∧
  (s.fu.log.map fun e => (e.kind, e.source)).Nodup ∧
  (∀ e ∈ s.fu.log, e.source.cls = e.kind.cls) ∧
  ∀ k, k.notifyOnly = true → (s.policy k).mute = false ∧ (s.policy k).latch = false

/-- Latches (spec/09 R176): FAULT_LATCH stands on exactly the units and feeds on which an entry of the log holds a latch. -/
def LatchLaw (s : State) : Prop :=
  (∀ u, (s.unit u).mutes.faultLatch = s.unitLatched u) ∧ ∀ f, (s.feed f).mutes.faultLatch = s.feedLatched f

/-- Actions (spec/09 R175): FAULT_ACTION and LINK_ACTION stand on exactly the units and feeds that an action record's source
names, one record for a kind and source at most, each source of its kind's class. -/
def ActionLaw (s : State) : Prop :=
  (∀ u, (s.unit u).mutes.faultAction = s.fu.actions.any (·.source = .unit u) ∧
    (s.unit u).mutes.linkAction = s.fu.actions.any (·.source = .link (linkOf u))) ∧
  (∀ f, (s.feed f).mutes.faultAction = s.fu.actions.any (·.source = .feed f)) ∧
  (s.fu.actions.map fun a => (a.kind, a.source)).Nodup ∧ ∀ a ∈ s.fu.actions, a.source.cls = a.kind.cls

/-- The state with FAULT_LATCH, FAULT_ACTION and LINK_ACTION of every unit and feed as LatchLaw and ActionLaw give them. -/
def State.remuted (s : State) : State :=
  let acts (x : Source) : Bool := s.fu.actions.any (·.source = x)
  let unit (u : UnitId) (r : UnitRec) : UnitRec :=
    { r with mutes := { r.mutes with faultLatch := s.unitLatched u, faultAction := acts (.unit u), linkAction := acts (.link (linkOf u)) } }
  let feed (f : FeedId) (r : FeedRec) : FeedRec :=
    { r with mutes := { r.mutes with faultLatch := s.feedLatched f, faultAction := acts (.feed f) } }
  { s with
    tu := { s.tu with feeds := Tbl.make fun f => feed f (s.feed f) }
    um := { s.um with units := Tbl.make fun u => unit u (s.unit u) } }

/-- The condition view of the block that reports a kind, for a source (spec/03 R39, spec/04 R62, spec/05 R92, R98, spec/09
R183); an occurrence has none. -/
def State.viewOf (s : State) : FaultKind → Source → Bool
  | .linkNoAlign, .link l => (s.link l).view.noAlign
  | .linkNoisy, .link l => (s.link l).view.noisy
  | .chainOverlength, .link l => (s.link l).view.overlength
  | .chainEmpty, .link l => (s.link l).view.empty
  | .unitSilent, .unit u => (s.unit u).view.silent
  | .unitPaHot, .unit u => (s.unit u).view.paHot
  | .unitVswr, .unit u => (s.unit u).view.vswr
  | .unitSupply, .unit u => (s.unit u).view.supply
  | .bandUnsupported, .unit u => (s.unit u).view.bandUnsupported
  | .powerLimit, .unit u => (s.mixer u).powerLimit
  | .downlinkClip, .unit u => (s.mixer u).clip
  | .noiseCeiling, .feed f => (s.combiner f).noiseCeiling
  | .uplinkOverload, .feed f => (s.combiner f).overload
  | .licenceRevoked, .feed f => Vector.get s.tu.licenceView f
  | .donorLost, .port p => Vector.get s.tu.donorView p
  | .operatorSuspended, .operator o => Vector.get s.tu.suspendView o
  | _, _ => false

/-- Conditions (spec/09 R168, R172, R174, R175): an entry of the log is active exactly while its condition is in the reporting
block's view; and an action record is that of an occurrence, or its condition is active. -/
def ConditionLaw (s : State) : Prop :=
  (∀ e ∈ s.fu.log, e.active = s.viewOf e.kind e.source) ∧
  ∀ a ∈ s.fu.actions, if a.occurrence then a.kind.isOccurrence = true else s.viewOf a.kind a.source = true

/-- Figures (spec/05 R95, R100, R103, R106): every combiner and mixer record is what its inputs form; NOISE_CEILING of a
radiating feed and POWER_LIMIT are active exactly where they are judged so, and the conditions of a feed that is not ENABLED or
of a unit that is not SERVING are inactive. -/
def FigureLaw (s : State) : Prop :=
  (∀ f, s.combiner f = s.combinerNow f ∧
    (s.radiates f = true → (s.combiner f).noiseCeiling = decide ((s.feedOp f).gl < (s.combiner f).required)) ∧
    ((s.feed f).state ≠ .enabled → (s.combiner f).noiseCeiling = false ∧ (s.combiner f).overload = false)) ∧
  ∀ u, s.mixer u = s.mixerNow u ∧
    (s.mixer u).powerLimit = (s.serving u && powerExceeds (s.mixer u).composite (s.mixer u).smax) ∧
    (s.serving u = false → (s.mixer u).clip = false)

/-- A CONFIG of the unit is in hand. -/
def State.configuring (s : State) (u : UnitId) : Bool :=
  (s.arbiter (linkOf u)).txn.any fun t => t.target = some (posOf u) && match t.requester with | .config _ => true | _ => false

/-- Band sets (spec/04 R63, R72, R74 to R76): a unit has an identity unless it is ABSENT, and its band mask follows; a unit that
is not ABSENT wants the needed slots within its mask, and BAND_UNSUPPORTED is active where one lies outside; a SERVING unit
configured otherwise than it wants has a CONFIG due, in hand or failed; and no CONFIG is due for an ABSENT or FAILED unit. -/
def BandsLaw (s : State) : Prop :=
  ∀ u, let r := s.unit u
    (r.identity = none ↔ r.state = .absent) ∧ r.mask = bandMask r.identity s.tu.bands ∧
    (r.state ≠ .absent → r.wanted = s.neededBands u &&& r.mask) ∧
    r.view.bandUnsupported = decide (r.unsupported (s.neededBands u) ≠ 0) ∧
    (r.state = .serving → r.configured ≠ some r.wanted → r.configDue || r.configFailed || s.configuring u) ∧
    (r.configDue = true → r.configurable = true)

/-- The transaction outstanding on a link is a relay. -/
def Arbiter.relaying (a : Arbiter) : Bool :=
  match a.txn.map Txn.requester with
  | some (.relay _) => true
  | _ => false

/-- Relays of a link that are owed a reply: those that wait and the one outstanding (spec/10 R190). -/
def Arbiter.owes (a : Arbiter) : Nat := a.relays.length + if a.relaying then 1 else 0

/-- Relays of all links that are owed a reply. -/
def State.relaysOwed (s : State) : Nat := (s.um.arbiters.toList.map Arbiter.owes).sum

/-- Port and control channel (spec/10 R184, R189, R190, R193, spec/04 R64, R87): the buffers keep their bounds, the replies
owed are the relays in hand and with the reply list at most 64; and a link with a transaction is in SURVEY or RUNNING,
with relays waiting only in RUNNING, 4 at most. -/
def PortLaw (s : State) : Prop :=
  s.mp.input.length ≤ Config.inputCapacity ∧ s.mp.notices.length ≤ Config.noticeCapacity ∧ s.mp.badFrames ≤ 65535 ∧
  s.mp.owed = s.relaysOwed ∧ s.mp.replies.length + s.mp.owed ≤ Config.replyCapacity ∧
  ∀ l, ((s.arbiter l).txn.isSome = true → (s.link l).state.carries = true) ∧
    (s.arbiter l).relays.length ≤ Config.relayCapacity ∧
    ((s.arbiter l).relays ≠ [] → (s.link l).state = .running)

/-- Counts (spec/03 R39, spec/06 R110, R114, R115): link counters keep their bounds, a period counts no more busy windows
than measured ones, occupancy and estimate are at most 1000, and a zone that is not NORMAL has no dwell. -/
def CountLaw (s : State) : Prop :=
  (∀ l, (s.link l).generation < 16 ∧ (s.link l).goodRun ≤ 3 ∧ (s.link l).badRun ≤ 255 ∧ (s.link l).zeroRun ≤ 8 ∧
    (s.link l).attempt ≤ 3 ∧ (s.link l).noise ≤ 65535 ∧ (s.link l).loopErrors ≤ 65535 ∧ (s.link l).testCounter ≤ 65535) ∧
  (∀ u, (s.measure u).busy ≤ (s.measure u).measured ∧ (s.measure u).measured ≤ 5000 ∧ (s.measure u).estimate ≤ 1000 ∧
    ∀ n, (s.measure u).occupancy = some n → n ≤ 1000) ∧
  ∀ z, ((s.load z).temp ≠ .normal → (s.load z).hotDwell = 0 ∧ (s.load z).coolDwell = 0) ∧
    ((s.load z).hotDwell = 0 ∨ (s.load z).coolDwell = 0)

/-- Spreading and plans (spec/06 R119, R120, spec/07 R128, R143): the Spread Engine works when R119 says so, with zones
named to it and its timer running only then; the marks of every plan keep their relation; and a held zone is defined, an
operator that holds it ACTIVE. -/
def SpreadLaw (s : State) : Prop :=
  s.se.working = s.mayWork ∧ (s.se.named ≠ [] → s.se.working = true) ∧ s.se.timer.isSome = s.se.working ∧
  (∀ n z, (Vector.get (s.bank n).marks z).ordered = true) ∧
  (∀ z, (s.holdOf z).isSome = true → (s.zone z).defined = true) ∧
  ∀ z o, s.holdOf z = some (some o) → (s.op o).state = .active

/-- What every state of a safe run keeps. -/
def Safe (s : State) : Prop :=
  TenancyLaw s ∧ RouteLaw s ∧ MigrationLaw s ∧ LayoutLaw s ∧ LogLaw s ∧ LatchLaw s ∧ ActionLaw s ∧ ConditionLaw s ∧
  FigureLaw s ∧ BandsLaw s ∧ PortLaw s ∧ CountLaw s ∧ SpreadLaw s

end Sys2Proof.Machine
end

