-- ==== Sys2Proof/WellFormed.lean ====
section
/-! DEFINITION. Well-formed commands: every operand fits the encoding the spec gives its field (spec/10 R201, R202), and
a returning word's or window's operands fit what the fibre and the sample paths carry. -/

namespace Sys2Proof

/-- An octet's value. -/
def fits1 (n : Nat) : Bool := n < 256
/-- A value of two octets. -/
def fits2 (n : Nat) : Bool := n < 65536
/-- A signed value of two octets. -/
def fitsSigned (x : Int) : Bool := -32768 ≤ x && x ≤ 32767
/-- A value that a well-formed optional field carries. -/
def fitsOpt {α : Type} (p : α → Bool) : Option α → Bool
  | none => true
  | some a => p a

def Hdr.wf (h : Hdr) : Bool := fits1 h.issuer && h.lengthOk && h.formOk

/-- FFh is "all". -/
def NumSel.wf : NumSel → Bool
  | .one n => n < 255
  | .all => true

/-- A first octet of FEh announces an index. -/
def UnitRef.wf : UnitRef → Bool
  | .lp l p => fits1 l && l != 254 && fits1 p
  | .index n => fits1 n

def UnitSel.wf : UnitSel → Bool
  | .unit u => u.wf
  | .link l => fits1 l
  | .all => true

def RouteSel.wf : RouteSel → Bool
  | .key f z => fits1 f && fits1 z
  | .feed n | .zone n | .set n => fits1 n
  | .all => true

def LevelSel.wf : LevelSel → Bool
  | .feed n => fits1 n
  | .unit u => u.wf
  | .feeds | .units => true

def LoadSel.wf : LoadSel → Bool
  | .unit u => u.wf
  | .zone n => fits1 n
  | .units | .zones | .spread => true

def FaultName.wf : FaultName → Bool
  | .all => true
  | .one k n => fits1 k && fits1 n

def FaultSel.wf : FaultSel → Bool
  | .all | .policy => true
  | .kind k => fits1 k
  | .source _ n => fits1 n
  | .kindSource k n => fits1 k && fits1 n

def MarkEntry.wf (m : MarkEntry) : Bool :=
  fits1 m.zone && fits2 m.high && fits2 m.low && fits2 m.hyst && fits2 m.dwell

/-- A reply word's position is 1 to 4, its attempt 1 to 4, its generation 0 to 15; a temperature is −128 to 127
(spec/04 R62, R64, R65). -/
def DataWord.wf : DataWord → Bool
  | .typeCode n => fits1 n
  | .power m => fits2 m
  | .range lo hi => fits2 lo && fits2 hi
  | .status _ t => -128 ≤ t && t ≤ 127
  | .serial _ | .word _ => true

def ReplyPart.wf : ReplyPart → Bool
  | .header _ n => fits1 n
  | .data d => d.wf

def ReplyWord.wf (w : ReplyWord) : Bool :=
  1 ≤ w.pos && w.pos ≤ 4 && w.gen < 16 && 1 ≤ w.attempt && w.attempt ≤ 4 && w.part.wf

def CtrlWord.wf : CtrlWord → Bool
  | .number l g c => l < 12 && g < 16 && fits1 c
  | .reqHeader l p g a _ n => l < 12 && fitsOpt (fun p => 1 ≤ p && p ≤ 4) p && g < 16 && 1 ≤ a && a ≤ 4 && n ≤ 16
  | .idle g | .reqData g _ => g < 16
  | .reply => true

/-- Ten bit periods of 16 samples (spec/10 R185, R186). -/
def RxChar.wf : RxChar → Bool
  | .sampled l => l.length == 160
  | .framed _ _ => true

/-- The operands of a command fit their fields. -/
def Instr.wf : Instr → Bool
  | .operatorSet h op _ l nc gl => h.wf && fits1 op && fits1 l.length && fits2 nc && fits2 gl
  | .operatorRead h n | .feedRead h n | .zoneRead h n | .linkRead h n | .planRead h n | .faultPolicyDefaults h n => h.wf && n.wf
  | .bandSet h b w => h.wf && fits1 b && fitsOpt (fun w => fits2 w.start && fitsSigned w.offset) w
  | .bandRead h | .planSelectNone h | .queueRead h | .status h | .ident h | .reset h _ => h.wf
  | .licenceSet h op b _ => h.wf && fits1 op && fits1 b
  | .feedDefine h f op b k n p l => h.wf && fits1 f && fits1 op && fits1 b && fits1 k && fits1 n && fits1 p && fits1 l
  | .feedEnableOn h n | .feedEnableOff h n | .feedMuteOn h n | .feedMuteOff h n | .feedRelease h n
  | .zoneDefineOff h n | .linkEnable h n | .linkDisable h n | .linkRestart h n | .linkLoopbackOn h n
  | .linkLoopbackOff h n | .zoneHold h n | .zoneRelease h n => h.wf && fits1 n
  | .zoneDefineOn h z l => h.wf && fits1 z && fits1 l.length
  | .routeAdd h f z l _ | .routeLevel h f z l _ => h.wf && fits1 f && fits1 z && fitsSigned l
  | .routeRemove h f z => h.wf && fits1 f && fits1 z
  | .routeRead h s => h.wf && s.wf
  | .pollSet h n | .levelSet h n => h.wf && fits2 n
  | .unitSet h u a t _ => h.wf && u.wf && fitsOpt fits2 a && fitsOpt fitsSigned t
  | .unitMuteOn h u | .unitMuteOff h u | .moveAbort h u => h.wf && u.wf
  | .unitRelay h l p w => h.wf && fits1 l && p.wf && fits1 w.length
  | .unitRead h s => h.wf && s.wf
  | .levelRead h s => h.wf && s.wf
  | .loadSet h p k => h.wf && fitsOpt fits2 p && fitsOpt fits2 k
  | .loadRead h s => h.wf && s.wf
  | .planWrite h b _ hs ms =>
      h.wf && fits1 b && fitsOpt (fun l => fits1 l.length && l.all fun e => e.1.wf && fits1 e.2) hs
        && fitsOpt (fun l => fits1 l.length && l.all MarkEntry.wf) ms
  | .planSelect h n => h.wf && fits1 n && n != 254
  | .move h u z _ => h.wf && u.wf && fits1 z
  | .spreadSet h _ c d t b => h.wf && fitsOpt fits2 c && fitsOpt fits2 d && fitsOpt fits2 t && fitsOpt fits2 b
  | .faultPolicy h k _ _ _ => h.wf && k.wf
  | .faultAck h n | .faultClear h n => h.wf && n.wf
  | .faultRead h s => h.wf && s.wf
  | .badKindRequest h k => h.wf && fits1 k && (k == 0 || 0x2E < k)
  | .numberWordReturn _ l g n => l < 12 && g < 16 && fits1 n
  | .echoReceived _ w => w.wf
  | .replyWordReceived _ w => w.wf
  | .combinerSample _ xs => xs.length == 48
  | .mixerSample _ xs => xs.length == 32
  | .busyWindowEnd _ w => w.samples.length != 0 && (w.samples.all fun x => x.length == 8) && w.cuts.all (· ≤ w.samples.length)
  | .characterReceived c => c.wf
  | .lockInputChange _ _ | .donorPortLocked _ | .donorPortUnlocked _ | .preambleEnd _ | .markerReceived _ _
  | .loopbackTestWord _ _ | .alignmentTimerExpiry _ | .noiseWindowExpiry _ | .numberTimeout _ | .transactionStart _
  | .requestWordSent _ | .replyWindowExpiry _ | .nextAttempt _ | .pollTimerExpiry _ | .evaluationPeriodExpiry
  | .hotZoneRound | .balanceTimerExpiry | .retryTimerExpiry | .blendStepExpiry _ | .breakDetected
  | .frameTransmitStart | .frameTransmitEnd | .holdInputChange _ | .warmReset | .coldReset _ _ | .startUpEnd
  | .runClockTick | .resetPinAsserted => true

end Sys2Proof
end

