-- ==== Sys2Proof/Certificates/Slice0/Obligations.lean ====
section
/-! DEFINITION. The statements for the provers. A statement says "still" or "calm" where it names what follow-up work
leaves alone (Sys2Proof/Safety.lean); `replied` is the state with the request taken and its reply joined, nothing else. -/

open Sys2Proof Sys2Proof.Machine

/-! ### The queue of commands, requests and frames -/

/-- A step takes the command at the front of the queue and runs it on the queue's rest. On an empty queue it runs the request
that the head frame of the input buffer carries, while taking is open and a reply has room; otherwise the part idles: the
model's choice (R190, notes/assumptions/7.md). -/
def Obligations.StepRunsFrontCommand : Prop :=
  (∀ (c : Instr) (rest : List Instr) (s : State), s.pending = c :: rest → step s = exec c { s with pending := rest }) ∧
  ∀ s : State, s.pending = [] →
    (∀ body rest, s.mp.input = body :: rest → s.canTake = true → step s = exec (decodeBody body) s) ∧
    (s.mp.input = [] ∨ s.canTake = false → step s = .next s)

/-- Every command completes, whatever its operands and the state, and leaves the queue of commands alone. That it completes in
every state rests on the model's choices: an event that cannot occur changes nothing (notes/assumptions/5.md), a request that
cannot be taken waits (6.md), and the queue is kept through a cold reset (2.md). -/
def Obligations.EveryCommandCompletes : Prop :=
  ∀ (i : Instr) (s : State), ∃ t, exec i s = .next t ∧ t.pending = s.pending

/-- The checks of MP in their order, for every request kind, and the request of no kind (R190, R191); a form octet beyond the
forms of its rule is refused before every other check of the owning block but PLAN_WRITE's of its bank; that the octet of an
optional field is one of these is the model's choice (notes/assumptions/51.md), and a command says of its body by two flags what
9.md has them say. While taking is closed, 64
replies are listed and owed, or the RESET pin holds the part, a request waits with nothing changed: the model's form of waiting
(notes/assumptions/6.md). Admitted are the venue always, no issuer number above 8, and an operator when it is ACTIVE and the
kind admits every issuer or names a feed, not FREE, that it owns (R5). -/
def Obligations.RequestChecksInOrder : Prop :=
  (∀ (i : Instr) (s : State), isKnown i = true → s.canTake = true →
    ((hdrOf i).lengthOk = false → exec i s = .next (s.replied i .badLength)) ∧
    ((hdrOf i).lengthOk = true → s.admits (hdrOf i) (rightOf i) = false → exec i s = .next (s.replied i .notPermitted)) ∧
    ((hdrOf i).lengthOk = true → s.admits (hdrOf i) (rightOf i) = true → (hdrOf i).formOk = false →
      formFirst i = true → exec i s = .next (s.replied i .badValue))) ∧
  (∀ (h : Hdr) (k : Nat) (s : State), s.canTake = true →
    exec (.badKindRequest h k) s = .next ((s.handed (.badKindRequest h k)).reply 0 h .badKind [.o1 k])) ∧
  (∀ (i : Instr) (s : State), (kindOf i).isSome = true → s.canTake = false → exec i s = .next s) ∧
  ∀ (s : State) (h : Hdr),
    (h.issuer = 0 → ∀ r, s.admits h r = true) ∧
    (8 < h.issuer → ∀ r, s.admits h r = false) ∧
    ∀ o : OpId, h.issuer = opNum o →
      ((s.op o).state ≠ .active → ∀ r, s.admits h r = false) ∧
      ((s.op o).state = .active → s.admits h .venue = false ∧ s.admits h .any = true ∧
        ∀ n, s.admits h (.own n) = true ↔ ∃ f : FeedId, f.val = n ∧ s.belongs o f = true)

/-- Decoding the body that encodes a well-formed request gives the request back. The choice octets, the flags, the
lists with their counts and the optional fields are those of notes/assumptions/22.md, 23.md and 28.md, where the spec leaves the
octets open. -/
def Obligations.DecodeOfEncode : Prop :=
  ∀ (i : Instr) (body : List Octet), i.wf = true → encodeBody i = some body → decodeBody body = i

/-- Bodies written out from the tables of R201, R202 and R206 are the requests they stand for. That on is 00h and off 01h is read
as notes/assumptions/22.md and 23.md say, and a length that does not fit is a flag of the command (9.md). -/
def Obligations.WrittenBodies : Prop :=
  decodeBody [0x2C, 0x12, 0x34, 0x00] = .status { tag := 0x1234, issuer := 0 } ∧
  decodeBody [0x0D, 0x00, 0x07, 0x02, 0x05, 0x0C, 0x00, 0xB4, 0x01, 0x01]
    = .routeAdd { tag := 7, issuer := 2 } 5 12 180 (some (some false)) ∧
  decodeBody [0x24, 0x00, 0x08, 0x00, 0xFE, 0x0A, 0x07, 0x01] = .move { tag := 8, issuer := 0 } (.index 10) 7 (some false) ∧
  decodeBody [0x05, 0x00, 0x09, 0x00, 0x02, 0x01, 0x80, 0x00, 0x00, 0x0F]
    = .licenceSet { tag := 9, issuer := 0 } 2 1 0x8000000F ∧
  decodeBody [0x2F, 0x00, 0x0A, 0x00] = .badKindRequest { tag := 10, issuer := 0 } 0x2F ∧
  decodeBody [0x11, 0x00, 0x0B, 0x00] = .linkEnable { tag := 11, issuer := 0, lengthOk := false } 0

/-- A frame of any body of 4 to 1020 octets, received in HUNT by a listening part with room in its input buffer, joins the
buffer, and nothing else changes but the receiver (R186, R188, R189, R200). A character is given as its octet and stop bit, a form of
the model (notes/assumptions/36.md). -/
def Obligations.FrameIsReceived : Prop :=
  ∀ (body : List Octet) (s : State), 4 ≤ body.length → body.length ≤ 1020 →
    s.mp.pinAsserted = false → s.mp.startUp = false → s.mp.rx.state = .hunt → s.mp.rx.area = [] →
    s.mp.input.length < Config.inputCapacity →
    receive (frameOf body) s = .next (s.updMp fun m => { m with rx := {}, input := m.input ++ [body] })

/-- One character at the receiver, and a break: in HUNT an octet other than D3h is dropped and D3h opens a frame; a character
without its stop bit abandons a frame in progress and is counted; a break empties the assembly area uncounted.
The second length octet opens the body when the length is 4 to 1020, and the second CRC octet ends the frame: a good one joins the
input buffer, or is counted as bad where that is full. A frame of a bad length or a failed CRC is discarded and counted, and the
octets behind its start octet are taken again in order, as if just received (R186, R187, R188, R189, R200). A character is given as
its octet and stop bit, a form of the model (notes/assumptions/36.md). -/
def Obligations.CharactersAndBreaks : Prop :=
  ∀ (o : Octet) (s : State), s.mp.pinAsserted = false → s.mp.startUp = false →
    (s.mp.rx.state = .hunt → o ≠ 0xD3 →
      exec (.characterReceived (.framed o true)) s = .next (s.updMp fun m => { m with rx := { m.rx with awaitHigh := false } })) ∧
    (s.mp.rx.state = .hunt → exec (.characterReceived (.framed 0xD3 true)) s =
      .next (s.updMp fun m => { m with rx := { state := .length, area := m.rx.area ++ [0xD3], awaitHigh := false } })) ∧
    (s.mp.rx.state ≠ .hunt → exec (.characterReceived (.framed o false)) s =
      .next (s.updMp fun m => { m with badFrames := min 65535 (m.badFrames + 1), rx := {} })) ∧
    exec .breakDetected s = .next (s.updMp fun m => { m with rx := { state := .hunt, area := [], awaitHigh := true } }) ∧
    let last := Instr.characterReceived (.framed o true)
    let counted : State := s.updMp fun m => { m with badFrames := min 65535 (m.badFrames + 1), rx := {} }
    (∀ hi : Octet, s.mp.rx.state = .length → s.mp.rx.area = [0xD3, hi] →
      let n := 256 * hi.toNat + o.toNat
      if 4 ≤ n ∧ n ≤ 1020 then exec last s =
        .next (s.updMp fun m => { m with rx := { state := .body, area := [0xD3, hi, o], awaitHigh := false } })
      else exec last s = receive [hi, o] counted) ∧
    ∀ (body : List Octet) (c : Octet), 4 ≤ body.length → body.length ≤ 1020 → s.mp.rx.state = .check →
      let covered := octets2 body.length ++ body
      s.mp.rx.area = 0xD3 :: (covered ++ [c]) →
      if [c, o] = octets2 (crcOf covered).toNat then
        exec last s = .next (if s.mp.input.length < 4 then s.updMp fun m => { m with rx := {}, input := m.input ++ [body] } else counted)
      else exec last s = receive (covered ++ [c, o]) counted

/-- The transmitter: a free one, HOLD not asserted, sends the next segment of the head reply, or else the head notice, which
leaves its queue; a reply leaves the list after its last segment, and the DONE reply of a RESET makes the warm reset due.
The HOLD pin takes its level (R191, R192, R196). A start and an end of the whole frame are the model's form of sending
(notes/assumptions/37.md). -/
def Obligations.Transmitting : Prop :=
  ∀ s : State, s.mp.pinAsserted = false →
    (s.mp.tx = none → s.mp.hold = false → s.mp.startUp = false → s.mp.warm ≠ .due →
      (∀ r rest, s.mp.replies = r :: rest →
        exec .frameTransmitStart s = .next (s.updMp fun m => { m with tx := some ⟨frameOf r.body, true⟩ })) ∧
      (∀ n rest, s.mp.replies = [] → s.mp.notices = n :: rest → exec .frameTransmitStart s =
        .next (s.updMp fun m => { m with tx := some ⟨frameOf n.body, false⟩, notices := rest }))) ∧
    (∀ octets r rest, s.mp.tx = some ⟨octets, true⟩ → s.mp.replies = r :: rest →
      (r.segment + 1 < r.segments → exec .frameTransmitEnd s =
        .next (s.updMp fun m => { m with tx := none, replies := { r with segment := r.segment + 1 } :: rest })) ∧
      (r.segments ≤ r.segment + 1 → exec .frameTransmitEnd s =
        .next (s.updMp fun m => { m with tx := none, replies := rest, warm := if r.isReset then .due else m.warm }))) ∧
    (∀ octets, s.mp.tx = some ⟨octets, false⟩ → exec .frameTransmitEnd s = .next (s.updMp fun m => { m with tx := none })) ∧
    ∀ b, exec (.holdInputChange b) s = .next (s.updMp fun m => { m with hold := b })

/-! ### Resets and the clock -/

/-- A cold reset at any time gives every item its cold reset value; the line rate follows the straps, and the input pins keep
their levels, each donor port monitor UNLOCKED qualifying a high one (R17, R185, R198). The cold reset values of State.reset that
the spec gives are listed: operators, band slots, feeds, condition views, zones, routes, links, units, arbiters, mixers and
combiners, measurements, loads, banks, holds, migrations, the Spread Engine, the Fault Unit and the port (R1, R10, R21, R39, R62,
R77, R107, R113, R128, R129, R164, R169, R198). The waiting commands are kept and the queue of State.reset is empty: the
model's choices (notes/assumptions/2.md, 8.md). -/
def Obligations.ColdReset : Prop :=
  (∀ (s1 s0 : Bool) (s : State), ∃ t, exec (.coldReset s1 s0) s = .next t ∧
    t.mp.rate = (match s1, s0 with
      | false, false => .r115200 | false, true => .r460800 | true, false => .r921600 | true, true => .r1843200) ∧
    t.mp.hold = s.mp.hold ∧ t.pending = s.pending ∧
    (∀ p, t.monitor p = { locked := false, lockInput := (s.monitor p).lockInput,
                          qual := if (s.monitor p).lockInput then some 100 else none }) ∧
    t =
      { State.reset with
        pending := t.pending
        tu := { State.reset.tu with monitors := t.tu.monitors }
        mp := { State.reset.mp with rate := t.mp.rate, hold := t.mp.hold } }) ∧
  let s := State.reset
  s.pending = [] ∧
  (∀ o, (s.op o).state = .undefined ∧ (s.op o).label = [] ∧ (s.op o).nc = 30 ∧ (s.op o).gl = 20 ∧
    (∀ b, Vector.get (s.op o).licence b = 0) ∧ Vector.get s.tu.suspendView o = false) ∧
  (∀ b, s.band b = none) ∧
  (∀ f, (s.feed f).state = .free ∧ (s.feed f).mutes = {} ∧ s.combiner f = {} ∧ Vector.get s.tu.licenceView f = false) ∧
  (∀ p, (s.monitor p).locked = false ∧ Vector.get s.tu.donorView p = false) ∧
  (∀ z, (s.zone z).defined = false ∧ (s.zone z).label = [] ∧ s.holdOf z = none ∧ s.load z = ⟨0, .normal, 0, 0⟩) ∧
  (∀ i, (s.routeSet i).way0 = none ∧ (s.routeSet i).way1 = none) ∧
  (∀ l, (s.link l).state = .off ∧ (s.link l).loopback = false ∧ (s.link l).looped = false ∧ (s.link l).generation = 0 ∧
    (s.link l).chain = none ∧ (s.link l).attempt = 0 ∧ (s.link l).goodRun = 0 ∧ (s.link l).badRun = 0 ∧ (s.link l).zeroRun = 0 ∧
    (s.link l).alignTimer = none ∧ (s.link l).noise = 0 ∧ (s.link l).lastWindow = 0 ∧ (s.link l).noiseTimer = none ∧
    (s.link l).view = {} ∧ (s.link l).testCounter = 0 ∧ (s.link l).loopErrors = 0) ∧
  (∀ l, (s.arbiter l).txn = none ∧ (s.arbiter l).relays = [] ∧ (s.arbiter l).lastPoll = false) ∧
  (∀ u, (s.unit u).state = .absent ∧ (s.unit u).identity = none ∧ (s.unit u).lastSerial = 0 ∧ (s.unit u).mask = 0 ∧
    (s.unit u).wanted = 0 ∧ (s.unit u).configured = none ∧ (s.unit u).configDue = false ∧ (s.unit u).atten = 0 ∧
    (s.unit u).threshold = -600 ∧ (s.unit u).eligible = 0 ∧ (s.unit u).mutes = {} ∧ (s.unit u).missCount = 0 ∧
    (s.unit u).pollTimer = none ∧ (s.unit u).pollDue = false ∧ (s.unit u).temperature = none ∧ (s.unit u).view = {} ∧
    s.mixer u = {} ∧ s.home u = none ∧ s.blend u = none ∧ (s.measure u).measured = 0 ∧ (s.measure u).busy = 0 ∧
    (s.measure u).occupancy = none ∧ (s.measure u).estimate = 0) ∧
  s.um.pollInterval = 500 ∧ s.le.limit = 100 ∧ s.lm.period = 1000 ∧ s.lm.shift = 3 ∧
  s.ps.active = 0 ∧ s.ps.pending = none ∧
  (∀ n, (s.bank n).mode = .seed ∧ (∀ z, Vector.get (s.bank n).marks z = ⟨8000, 1000, 500, 5, false⟩) ∧
    ∀ u, Vector.get (s.bank n).homes u = none) ∧
  s.se.working = false ∧ s.se.timer = none ∧ s.se.round = none ∧ s.se.named = [] ∧
  s.me.queue = [] ∧ s.me.retry = none ∧ s.me.params = ⟨false, 4, 12, 250, 10⟩ ∧
  s.fu.policy = defaultPolicies ∧ s.fu.log = [] ∧ s.fu.overflow = false ∧ s.fu.actions = [] ∧ s.fu.clock = 0 ∧
  s.mp.startUp = true ∧ s.mp.taking = false ∧ s.mp.input = [] ∧ s.mp.replies = [] ∧ s.mp.notices = [] ∧ s.mp.seq = 0 ∧
  s.mp.badFrames = 0 ∧ s.mp.noticeOverflow = false

/-- The end of start-up: the receiver hunts, the READY notice with cause COLD is posted, taking opens, and the evaluation
timer starts at P. An asserted RESET pin holds the part and abandons the frame sent and a reset requested (R198). RESET of scope
WARM closes taking and joins a DONE reply, after which the warm reset is due; any other scope is refused BAD_VALUE (R196). The octets
of READY, COLD as 00h among them, are those of notes/assumptions/22.md. -/
def Obligations.StartUpAndResets : Prop :=
  ∀ (h : Hdr) (s : State),
    (s.passes (.reset h true) = true → exec (.reset h true) s = .next ((s.handed (.reset h true)).updMp fun m =>
      { m with taking := false, warm := .accepted,
               replies := m.replies ++ [{ kind := 0xAE, tag := h.tag, result := .done, fields := [], isReset := true }] })) ∧
    (s.passes (.reset h false) = true → exec (.reset h false) s = .next (s.replied (.reset h false) .badValue)) ∧
    (s.mp.pinAsserted = false → s.mp.startUp = true → exec .startUpEnd s =
      .next ((((s.updMp fun m => { m with rx := {}, startUp := false, taking := true }).updLm fun m =>
        { m with timer := some m.period }).post .ready [.o1 0, .o2 0x12D8, .o1 1, .o1 s.mp.rate.octet, .o4 s.fu.clock.toNat]))) ∧
    exec .resetPinAsserted s = .next (s.updMp fun m => { m with pinAsserted := true, tx := none, warm := .idle })

/-- A warm reset that is due is made (R197, and the warm reset rules of each block: R20, R61, R90, R109, R113, R115, R119,
R139, R166, R172, R173, R175, R176, R183): settings stay, links that are not OFF start again, units are ABSENT in their homes of the active plan,
and the conditions of the Tenancy Unit are judged afresh. READY with cause WARM is the first notice. Every log entry is kept,
inactive, but for what those conditions write: no entry goes but an ACKED one without latch that a report of theirs evicts from a
full log. Log, log-overflow flag and action list are what their reports leave of the kept entries, feeds, ports and operators in
number order (notes/assumptions/29.md); where none of them stands, entries inactive and no action record. One entry for a kind and
source at most is the premise LogLaw. The samples last sent stay in their lanes (notes/assumptions/24.md), and the octets of READY,
WARM as 01h among them, are those of 22.md. -/
def Obligations.WarmReset : Prop :=
  ∀ s : State, s.mp.pinAsserted = false → s.mp.warm = .due → ∃ t, exec .warmReset s = .next t ∧
    t.mp.notices.head? =
      some ⟨.ready, s.mp.seq, [.o1 1, .o2 0x12D8, .o1 1, .o1 s.mp.rate.octet, .o4 s.fu.clock.toNat]⟩ ∧
    (let own (k : FaultKind) : Prop := k = .licenceRevoked ∨ k = .donorLost ∨ k = .operatorSuspended
     (∀ x ∈ t.fu.log, own x.kind ∨ ∃ e ∈ s.fu.log, x = { e with active := false }) ∧
     (LogLaw s → ∀ e ∈ s.fu.log,
        (∃ x ∈ t.fu.log, x.kind = e.kind ∧ x.source = e.source ∧ (own e.kind ∨ x = { e with active := false })) ∨
        (e.acked = true ∧ e.latch = false ∧ 32 ≤ t.fu.log.length)) ∧
     (let standing : List (FaultKind × Source × Nat) :=
        (((indices 32).filter fun f => (s.feed f).state = .enabled && s.unlicensed f ≠ 0).map fun f =>
          (.licenceRevoked, .feed f, ((indices 32).filter fun b => (s.unlicensed f).getLsbD b.val).length)) ++
        (((indices 8).filter fun p => !(s.monitor p).locked && (indices 32).any (s.onPort p)).map fun p =>
          (.donorLost, .port p, ((indices 32).filter (s.onPort p)).length)) ++
        (((indices 8).filter fun o => (s.op o).state = .suspended).map fun o =>
          (.operatorSuspended, .operator o, ((indices 32).filter (s.belongs o)).length))
      let raise (fu : FaultUnit) (r : FaultKind × Source × Nat) : FaultUnit :=
        let kept := fu.logRaised r.1 r.2.1 .active (BitVec.ofNat 32 r.2.2)
        { kept.1 with
          log := if kept.2 && (s.policy r.1).latch
            then kept.1.log.map fun e => if e.names r.1 r.2.1 then { e with latch := true } else e else kept.1.log
          actions := if (s.policy r.1).mute && !(fu.actions.any fun a => a.kind = r.1 && a.source = r.2.1)
            then fu.actions ++ [⟨r.1, r.2.1, false⟩] else fu.actions }
      LogLaw s → t.fu = standing.foldl raise { s.fu with log := s.fu.log.map fun e => { e with active := false }, actions := [] }) ∧
     (∀ a ∈ t.fu.actions, own a.kind ∧ a.occurrence = false ∧ (s.policy a.kind).mute = true) ∧
     ((∀ f, (s.feed f).state = .enabled → s.unlicensed f = 0) →
      (∀ p, (s.monitor p).locked = true ∨ ∀ f, s.onPort p f = false) → (∀ o, (s.op o).state ≠ .suspended) →
      t.fu = { s.fu with log := s.fu.log.map fun e => { e with active := false }, actions := [] })) ∧
    t.still = State.still
    { s with
      tu := { s.tu with
        feeds := Tbl.make fun f => { s.feed f with mutes := { (s.feed f).mutes with
          licenceRevoked := if (s.feed f).state = .enabled then s.unlicensed f ≠ 0 else (s.feed f).mutes.licenceRevoked } }
        licenceView := Tbl.make fun f => (s.feed f).state = .enabled && s.unlicensed f ≠ 0
        donorView := Tbl.make fun p => !(s.monitor p).locked && (indices 32).any (s.onPort p)
        suspendView := Tbl.make fun o => (s.op o).state = .suspended }
      lc := Tbl.make fun l =>
        if (s.link l).state = .off then { generation := (s.link l).generation }
        else { state := .preamble, generation := (s.link l).generation, noiseTimer := some 1000 }
      um := {
        units := Tbl.make fun u =>
          { lastSerial := (s.unit u).lastSerial
            atten := (s.unit u).atten
            threshold := (s.unit u).threshold
            eligible := (s.unit u).eligible
            mutes := { faultLatch := (s.unit u).mutes.faultLatch, issuerMute := (s.unit u).mutes.issuerMute } }
        pollInterval := s.um.pollInterval }
      le := { limit := s.le.limit }
      lm := { period := s.lm.period, shift := s.lm.shift, timer := some s.lm.period }
      se := { working := s.mayWork, timer := if s.mayWork then some (1000 * s.me.params.balance) else none }
      ps := { s.ps with pending := none }
      me := { homes := s.activeBank.homes, params := s.me.params }
      mp := { s.mp with rx := {}, input := [], replies := [], owed := 0, tx := none, taking := true, warm := .idle } }

/-- One millisecond: the run clock rises by 1, wrapping, and every running timer has 1 ms less to run (R181); that a timer's
expiry is an event of its own, and that a millisecond ends the frame that carries a word in its control slot, are the model's
choices (notes/assumptions/4.md, 48.md). -/
def Obligations.ClockTick : Prop :=
  ∀ s : State, s.mp.pinAsserted = false → ∃ t, exec .runClockTick s = .next t ∧
    t.fu = { s.fu with clock := s.fu.clock + 1 } ∧
    (∀ p, t.monitor p = { s.monitor p with qual := (s.monitor p).qual.map (· - 1) }) ∧
    (∀ l, t.link l =
      { s.link l with
        alignTimer := (s.link l).alignTimer.map (· - 1)
        noiseTimer := (s.link l).noiseTimer.map (· - 1)
        numberWait := (s.link l).numberWait.map (· - 1)
        slot := none }) ∧
    (∀ u, t.unit u = { s.unit u with pollTimer := (s.unit u).pollTimer.map (· - 1) }) ∧
    (∀ l, t.arbiter l = { s.arbiter l with txn := (s.arbiter l).txn.map fun x =>
      { x with window := x.window.map (· - 1), spacing := x.spacing.map (· - 1) } }) ∧
    (∀ u, t.blend u = (s.blend u).map fun b => { b with timer := b.timer - 1 }) ∧
    t.lm = { s.lm with timer := s.lm.timer.map (· - 1) } ∧ t.se = { s.se with timer := s.se.timer.map (· - 1) } ∧
    t.me = { s.me with retry := s.me.retry.map (· - 1), blends := t.me.blends } ∧
    t =
      { s with
        fu := t.fu
        tu := { s.tu with monitors := t.tu.monitors }
        lc := t.lc
        um := { s.um with units := t.um.units, arbiters := t.um.arbiters }
        lm := t.lm
        se := t.se
        me := t.me }

/-! ### Laws that every step keeps -/

/-- Every law of a safe run holds after a cold reset. -/
def Obligations.SafeAtReset : Prop := Safe State.reset

/-- Every step keeps the tenancy law: owners, slots, lanes, the spectrum of enabled feeds, and the mute reasons and conditions of
the Tenancy Unit. -/
def Obligations.TenancyKept : Prop := ∀ s t : State, Safe s → step s = .next t → TenancyLaw t

/-- Every step keeps the route law: each route in the set of its key, no key twice, no conflict within a zone. -/
def Obligations.RoutesKept : Prop := ∀ s t : State, Safe s → step s = .next t → RouteLaw t

/-- Every step keeps the migration law: queue, blends and the limit C, no AUTO move at a held zone but one that reverses, and one
AUTO move at most out of a zone. -/
def Obligations.MigrationsKept : Prop := ∀ s t : State, Safe s → step s = .next t → MigrationLaw t

/-- Every step keeps the layout law: members in defined zones, 16 at most, and valid plans. -/
def Obligations.LayoutKept : Prop := ∀ s t : State, Safe s → step s = .next t → LayoutLaw t

/-- Every step keeps the laws of the Fault Unit: 32 entries at most, one for a kind and source; FAULT_LATCH exactly where the log
holds a latch; FAULT_ACTION and LINK_ACTION exactly where an action record names the unit, feed or link, one for a kind and
source; and an entry active exactly while its condition is. -/
def Obligations.LogAndLatchesKept : Prop :=
  ∀ s t : State, Safe s → step s = .next t → LogLaw t ∧ LatchLaw t ∧ ActionLaw t ∧ ConditionLaw t

/-- Every step leaves the Level Engine's figures and the units' band sets as their inputs form them (R74, R76, R103). A radiating
feed's noise rise less five times its group attenuation is within NC, or G is GL with NOISE_CEILING active (R95); and a SERVING
unit's composite at its backoff is within the rated power, or the backoff is 40 with POWER_LIMIT active (R100). That the set of a FAILED unit
follows the events, and an ABSENT unit's does not, is the model's choice (notes/assumptions/38.md). -/
def Obligations.FiguresAndBandsKept : Prop :=
  ∀ s t : State, Safe s → step s = .next t → FigureLaw t ∧ BandsLaw t ∧
    (∀ f, t.radiates f = true → let c := t.combiner f
      (c.nr ≤ (t.feedOp f).nc + 5 * c.g ∧ c.noiseCeiling = false) ∨ (c.g = (t.feedOp f).gl ∧ c.noiseCeiling = true)) ∧
    ∀ u, t.serving u = true → let m := t.mixer u
      (m.composite * scaleF m.backoff ≤ m.smax * 65536 ∧ m.powerLimit = false) ∨ (m.backoff = 40 ∧ m.powerLimit = true)

/-- Every step keeps the port law: bounded buffers and an exact account of the replies owed. -/
def Obligations.PortKept : Prop := ∀ s t : State, Safe s → step s = .next t → PortLaw t

/-- Every step keeps the count law and the spreading law: link counters, measured shares and dwells; the working flag, ordered
marks and rightful holds. -/
def Obligations.CountsAndSpreadingKept : Prop := ∀ s t : State, Safe s → step s = .next t → CountLaw t ∧ SpreadLaw t

/-! ### The arithmetic of levels (spec/05) -/

/-- Every entry of W, Q, T and F is its formula rounded to the nearest integer (R91): n rounds a value when the value lies from
n − 1/2 up to n + 1/2. Q[c] equals W[2c] up to c = 63 and is 0 from 97 on; T[0] is 32768, and T[200] is 3276800 and lies above
48 weights of code 0. The tables are constants: no state enters them. -/
def Obligations.TablesAreRounded : Prop :=
  (∀ c : Fin 128, let n := weightW c
    (2 * n - 1) ^ 40 * 10 ^ c.val ≤ 65536 ^ 40 ∧ 65536 ^ 40 < (2 * n + 1) ^ 40 * 10 ^ c.val) ∧
  (∀ c : Fin 128, let n := weightQ c
    (2 * n - 1) ^ 20 * 10 ^ c.val ≤ 65536 ^ 20 ∧ 65536 ^ 20 < (2 * n + 1) ^ 20 * 10 ^ c.val) ∧
  (∀ c : Fin 201, let n := thresholdT c
    (2 * n - 1) ^ 100 ≤ 65536 ^ 100 * 10 ^ c.val ∧ 65536 ^ 100 * 10 ^ c.val < (2 * n + 1) ^ 100) ∧
  (∀ c : Fin 41, let n := scaleF c
    (2 * n - 1) ^ 20 * 10 ^ c.val ≤ 131072 ^ 20 ∧ 131072 ^ 20 < (2 * n + 1) ^ 20 * 10 ^ c.val) ∧
  (∀ c : Nat, c ≤ 63 → weightQ c = weightW (2 * c)) ∧ (∀ c : Nat, 97 ≤ c → weightQ c = 0) ∧
  thresholdT 0 = 32768 ∧ thresholdT 200 = 3276800 ∧ 48 * weightQ 0 < thresholdT 200

/-- The noise sum of a set of codes is the sum of their weights Q, 0 for an empty set and at most 1572864 for 48 entries, which
48 entries at code 0 reach. The noise rise is the smallest n in 0 to 200 for which S is at most T[n]: 0 for a sum up to 32768,
and 169 for 1572864 (R94). -/
def Obligations.NoiseRiseIsLeast : Prop :=
  (∀ codes : List Nat, noiseSum codes = (codes.map weightQ).sum ∧ (codes.length ≤ 48 → noiseSum codes ≤ 1572864)) ∧
  noiseSum [] = 0 ∧ noiseSum (List.replicate 48 0) = 1572864 ∧
  (∀ (s : State) (f : FeedId), (s.combinerNow f).sum = noiseSum ((s.combinerNow f).set.map (·.code)) ∧
    (s.combinerNow f).nr = noiseRise (s.combinerNow f).sum) ∧
  (∀ sum : Nat, sum ≤ 1572864 →
    noiseRise sum ≤ 200 ∧ sum ≤ thresholdT (noiseRise sum) ∧ ∀ n, n < noiseRise sum → thresholdT n < sum) ∧
  (∀ sum : Nat, sum ≤ 32768 → noiseRise sum = 0) ∧ noiseRise 1572864 = 169

/-- The power of a level is 1000 × 10^(L'/100) µW rounded, and 0 from −270 down; the backoff is the smallest b in 0 to 40 that
brings the composite within the rated limit, and 40 with POWER_LIMIT where none does (R100). -/
def Obligations.PowerAndBackoff : Prop :=
  (∀ level : Int, level ≤ -270 → powerOf level = 0) ∧
  (∀ e : Nat, 31 ≤ e → e ≤ 700 → let n := powerOf ((e : Int) - 300)
    (2 * n - 1) ^ 100 ≤ 2 ^ 100 * 10 ^ e ∧ 2 ^ 100 * 10 ^ e < (2 * n + 1) ^ 100) ∧
  ∀ composite smax : Nat,
    backoffOf composite smax ≤ 40 ∧
    (∀ b, b < backoffOf composite smax → smax * 65536 < composite * scaleF b) ∧
    (powerExceeds composite smax = false → composite * scaleF (backoffOf composite smax) ≤ smax * 65536) ∧
    (powerExceeds composite smax = true →
      backoffOf composite smax = 40 ∧ ∀ b, b ≤ 40 → smax * 65536 < composite * scaleF b)

/-- The sample paths: a radiating feed's uplink sample is the weighted sum of its contributing set, scaled by W[G], rounded,
saturated and put on its lane; an unmuted SERVING unit's downlink sample is the weighted sum of its terms that are not
omitted; saturated components are counted, and where nothing radiates zeros are sent (R15, R96, R98, R102). That State holds the last
sample of each lane and position is the model's choice (notes/assumptions/24.md). -/
def Obligations.SamplePaths : Prop :=
  ∀ s : State, s.mp.pinAsserted = false →
    (∀ (f : FeedId) (xs : List IQ),
      let c := s.combiner f
      let sum (x : IQ → BitVec 16) : Int := (c.set.map fun e => (weightW e.code : Int) * (x (sampleAt xs e.unit.val)).toInt).sum
      let y (x : IQ → BitVec 16) : Int := (sum x * weightW c.g + 2 ^ 29) / 2 ^ 30
      let clipped (v : Int) : Nat := if v < -32768 ∨ 32767 < v then 1 else 0
      (s.radiates f = true → exec (.combinerSample f xs) s = .next ((s.updCombiner f fun c =>
          { c with saturations := min 4294967295 (c.saturations + clipped (y IQ.i) + clipped (y IQ.q)) }).setLane (s.laneOf f)
            ⟨BitVec.ofInt 16 (max (-32768) (min 32767 (y IQ.i))), BitVec.ofInt 16 (max (-32768) (min 32767 (y IQ.q)))⟩)) ∧
      ((s.feed f).state ≠ .free → s.radiates f = false →
        exec (.combinerSample f xs) s = .next (s.setLane (s.laneOf f) ⟨0, 0⟩))) ∧
    ∀ (u : UnitId) (xs : List IQ),
      let ts := (s.mixer u).terms.filter fun t => !t.omitted
      let sum (x : IQ → BitVec 16) : Int := (ts.map fun t => (weightW t.code : Int) * (x (sampleAt xs t.feed.val)).toInt).sum
      let y (x : IQ → BitVec 16) : Int := (sum x + 2 ^ 14) / 2 ^ 15
      let clipped (v : Int) : Nat := if v < -32768 ∨ 32767 < v then 1 else 0
      (s.serving u = true → (s.unit u).mutes.isEmpty = true → exec (.mixerSample u xs) s = .next ((s.updMixer u fun m =>
          { m with clips := min 4294967295 (m.clips + clipped (y IQ.i) + clipped (y IQ.q)) }).setPayload u
            ⟨BitVec.ofInt 16 (max (-32768) (min 32767 (y IQ.i))), BitVec.ofInt 16 (max (-32768) (min 32767 (y IQ.q)))⟩)) ∧
      (s.serving u = false ∨ (s.unit u).mutes.isEmpty = false →
        exec (.mixerSample u xs) s = .next (s.setPayload u ⟨0, 0⟩))

/-! ### Requests that write one setting -/

/-- POLL_SET, LEVEL_SET, LOAD_SET and PLAN_SELECT write their setting within its range and change nothing else; out of range
they are refused BAD_VALUE with nothing changed, and a bank that is not valid PLAN_INVALID, naming its first offender
(R77, R107, R113, R132, R133). The octets of the offender, and that a LOAD_SET without a field is accepted, are the model's choices
(notes/assumptions/50.md, 56.md, 52.md). -/
def Obligations.SettingsWrite : Prop :=
  ∀ (h : Hdr) (s : State),
    (∀ n, s.passes (.pollSet h n) = true →
      (100 ≤ n ∧ n ≤ 5000 → exec (.pollSet h n) s =
        .next { s.replied (.pollSet h n) .done with um := { s.um with pollInterval := n } }) ∧
      (n < 100 ∨ 5000 < n → exec (.pollSet h n) s = .next (s.replied (.pollSet h n) .badValue))) ∧
    (∀ n, s.passes (.levelSet h n) = true →
      (1 ≤ n ∧ n ≤ 65535 → exec (.levelSet h n) s =
        .next { s.replied (.levelSet h n) .done with le := { s.le with limit := n } }) ∧
      (n < 1 ∨ 65535 < n → exec (.levelSet h n) s = .next (s.replied (.levelSet h n) .badValue))) ∧
    (∀ p k, s.passes (.loadSet h p k) = true →
      ((∀ n, p = some n → 250 ≤ n ∧ n ≤ 5000) ∧ (∀ n, k = some n → n ≤ 7) → exec (.loadSet h p k) s =
        .next { s.replied (.loadSet h p k) .done with
                lm := { s.lm with period := p.getD s.lm.period, shift := k.getD s.lm.shift } }) ∧
      (∀ n, (p = some n ∧ (n < 250 ∨ 5000 < n)) ∨ (k = some n ∧ 7 < n) →
        exec (.loadSet h p k) s = .next (s.replied (.loadSet h p k) .badValue))) ∧
    (∀ n : BankId, s.passes (.planSelect h n.val) = true →
      (s.validate (s.bank n) = none → exec (.planSelect h n.val) s =
        .next { s.replied (.planSelect h n.val) .done with ps := { s.ps with pending := some n } }) ∧
      ∀ o, s.validate (s.bank n) = some o →
        exec (.planSelect h n.val) s = .next (s.replied (.planSelect h n.val) .planInvalid o.fields)) ∧
    (∀ n : Nat, 4 ≤ n → s.passes (.planSelect h n) = true →
      exec (.planSelect h n) s = .next (s.replied (.planSelect h n) .badValue)) ∧
    (s.passes (.planSelectNone h) = true →
      (s.ps.pending ≠ none → exec (.planSelectNone h) s =
        .next { s.replied (.planSelectNone h) .done with ps := { s.ps with pending := none } }) ∧
      (s.ps.pending = none → exec (.planSelectNone h) s = .next (s.replied (.planSelectNone h) .none)))

/-! ### Tenancy (spec/01) -/

/-- OPERATOR_SET writes state, label, NC and GL of one operator. Suspension adds OPERATOR_SUSPENDED to the operator's feeds that
are not FREE and releases its holds; resumption removes the reason; undefinition, with no such feed, gives the record its cold
reset values (R2, R3, R4). The lane of a feed that stops keeps the sample last sent until the next (notes/assumptions/24.md). -/
def Obligations.OperatorSetWrites : Prop :=
  ∀ (h : Hdr) (o : OpId) (st : OperatorState) (label : List Octet) (nc gl : Nat) (s : State),
    let i := Instr.operatorSet h (opNum o) (some st) label nc gl
    let was := (s.op o).state
    let written := (s.replied i .done).updOp o fun r => { r with state := st, label := label, nc := nc, gl := gl }
    let suspend (b : Bool) (x : State) : State :=
      (x.mapFeeds (s.belongs o) fun r => { r with mutes := { r.mutes with operatorSuspended := b } }).setSuspendView o b
    s.passes i = true → labelOk label = true → nc ≤ 120 → gl ≤ 63 →
    (st = .active → was ≠ .suspended → ∃ t, exec i s = .next t ∧ t.still = written.still) ∧
    (st = .active → was = .suspended → ∃ t, exec i s = .next t ∧ t.still = (suspend false written).still) ∧
    (st = .suspended → was = .suspended → ∃ t, exec i s = .next t ∧ t.still = written.still) ∧
    (st = .suspended → was ≠ .suspended →
      ∃ t, exec i s = .next t ∧ t.still = (suspend true (written.releaseHolds o)).still) ∧
    (st = .undefined → was ≠ .undefined → (∀ f, s.belongs o f = false) →
      ∃ t, exec i s = .next t ∧
        t.still = ((((s.replied i .done).updOp o fun _ => {}).releaseHolds o).setSuspendView o false).still)

/-- BAND_SET writes a slot that no feed uses and whose windows meet no other slot's; a present slot that changes loses every
licence in it, and every unit's band mask follows the bands (R7, R72). -/
def Obligations.BandSetWrites : Prop :=
  ∀ (h : Hdr) (b : SlotId) (w : Option Window) (s : State),
    let i := Instr.bandSet h b.val w
    let bands := s.tu.bands.upd b fun _ => w
    let written := (s.replied i .done).setBand b w
    let masked (x : State) : State := x.mapUnits (fun _ => true) fun _ r => { r with mask := bandMask r.identity bands }
    s.passes i = true → (∀ x, w = some x → windowOk x = true) → (∀ f, (s.feed f).state ≠ .free → (s.feed f).slot ≠ b) →
    (∀ x c y, w = some x → c ≠ b → s.band c = some y → windowsConflict x y = false) →
    (s.band b = none ∨ s.band b = w → ∃ t, exec i s = .next t ∧ t.still = (masked written).still) ∧
    (s.band b ≠ none → s.band b ≠ w → ∃ t, exec i s = .next t ∧
      t.still = (masked { written with tu := { written.tu with
        ops := s.tu.ops.map fun r => { r with licence := r.licence.upd b fun _ => 0 } } }).still)

/-- LICENCE_SET writes one licence set, and each ENABLED feed of that operator and slot is muted LICENCE_REVOKED exactly when
a block of it lies outside (R8, R9). The lane of a feed that stops keeps the sample last sent until the next (notes/assumptions/24.md). -/
def Obligations.LicenceSetWrites : Prop :=
  ∀ (h : Hdr) (o : OpId) (b : SlotId) (blocks : BitVec 32) (s : State),
    let i := Instr.licenceSet h (opNum o) b.val blocks
    let concerns (f : FeedId) : Bool := (s.feed f).state = .enabled && (s.feed f).operator = some o && (s.feed f).slot = b
    let revoked (r : FeedRec) : Bool := r.blocks &&& ~~~blocks ≠ 0
    s.passes i = true → (s.op o).state ≠ .undefined → s.band b ≠ none →
    ∃ t, exec i s = .next t ∧ (∀ f, concerns f = true → Vector.get t.tu.licenceView f = revoked (s.feed f)) ∧
      ({ t with tu := { t.tu with licenceView := s.tu.licenceView } } : State).still =
        (((s.replied i .done).updOp o fun r => { r with licence := r.licence.upd b fun _ => blocks }).mapFeeds concerns
          fun r => { r with mutes := { r.mutes with licenceRevoked := revoked r } }).still

/-- FEED_DEFINE writes the record of a feed that is FREE, or DEFINED and in no route, muted for a suspended operator and an
unlocked port, keeping FAULT_LATCH and ISSUER_MUTE and no longer muted for a revoked licence or a fault action (R11); no other
feed's record changes. DONOR_LOST is judged for the new port and for the port the feed leaves (R17), and the lane that the feed
leaves receives zeros (R15). -/
def Obligations.FeedDefineWrites : Prop :=
  ∀ (h : Hdr) (f : FeedId) (o : OpId) (b : SlotId) (first count : Nat) (p : PortId) (l : LaneId) (s : State),
    let i := Instr.feedDefine h f.val (opNum o) b.val first count p.val l.val
    s.passes i = true → 1 ≤ count → first + count ≤ 32 →
    (s.feed f).state = .free ∨ ((s.feed f).state = .defined ∧ s.routed f = false) →
    (s.op o).state ≠ .undefined → s.band b ≠ none →
    (∀ g, g ≠ f → (s.feed g).state ≠ .free → (s.feed g).port = p → (s.feed g).lane ≠ l) →
    blockRun first count &&& ~~~(Vector.get (s.op o).licence b) = 0 →
    let leaves := (s.feed f).state ≠ .free ∧ ((s.feed f).port ≠ p ∨ (s.feed f).lane ≠ l)
    ∃ t, exec i s = .next t ∧ (∀ g, g ≠ f → t.feed g = s.feed g) ∧
      t.feed f =
        { state := .defined, operator := some o, slot := b, firstBlock := first, blockCount := count, port := p, lane := l,
          mutes := { operatorSuspended := (s.op o).state = .suspended, donorDown := !(s.monitor p).locked,
                     faultLatch := (s.feed f).mutes.faultLatch, issuerMute := (s.feed f).mutes.issuerMute } } ∧
      (∀ q, Vector.get t.tu.donorView q =
        if q = p then !(s.monitor p).locked
        else if (s.feed f).state ≠ .free ∧ q = (s.feed f).port then
          !(s.monitor q).locked && (indices 32).any fun g => g ≠ f && s.onPort q g
        else Vector.get s.tu.donorView q) ∧
      ({ t with tu := { t.tu with feeds := s.tu.feeds, donorView := s.tu.donorView } } : State).still =
        (if leaves then (s.replied i .done).setLane (s.laneOf f) ⟨0, 0⟩ else s.replied i .done).still

/-- FEED_ENABLE on enables a licensed DEFINED feed that overlaps no other ENABLED feed of its slot, and refuses SPECTRUM and
OVERLAP otherwise; FEED_ENABLE off returns an ENABLED feed to DEFINED, without LICENCE_REVOKED (R12, R13), its lane keeping the sample last sent until the next (notes/assumptions/24.md). -/
def Obligations.FeedEnable : Prop :=
  ∀ (h : Hdr) (f : FeedId) (s : State),
    let on := Instr.feedEnableOn h f.val
    let off := Instr.feedEnableOff h f.val
    (s.passes on = true → (s.feed f).state = .defined →
      (s.unlicensed f ≠ 0 → exec on s = .next (s.replied on .spectrum)) ∧
      (s.unlicensed f = 0 → s.overlapped f = true → exec on s = .next (s.replied on .overlap)) ∧
      (s.unlicensed f = 0 → s.overlapped f = false → ∃ t, exec on s = .next t ∧
        t.still = ((s.replied on .done).updFeed f fun r => { r with state := .enabled }).still)) ∧
    (s.passes off = true → (s.feed f).state = .enabled → ∃ t, exec off s = .next t ∧
      t.still = (((s.replied off .done).updFeed f fun r =>
        { r with state := .defined, mutes := { r.mutes with licenceRevoked := false } }).setLicenceView f false).still)

/-- FEED_MUTE adds and removes ISSUER_MUTE of a feed that is not FREE, and a FREE feed is refused NOT_DEFINED (R16); the lane of a
feed that stops keeps the sample last sent until the next (notes/assumptions/24.md). FEED_RELEASE gives a DEFINED feed in no
route its FREE record, keeping FAULT_LATCH alone, and its lane zeros; DONOR_LOST of the port is judged (R14, R15, R17). -/
def Obligations.FeedMuteAndRelease : Prop :=
  ∀ (h : Hdr) (f : FeedId) (s : State),
    let i (b : Bool) : Instr := if b then .feedMuteOn h f.val else .feedMuteOff h f.val
    (∀ b, s.passes (i b) = true →
      ((s.feed f).state ≠ .free → ∃ t, exec (i b) s = .next t ∧
        t.still = ((s.replied (i b) .done).updFeed f fun r => { r with mutes := { r.mutes with issuerMute := b } }).still) ∧
      ((s.feed f).state = .free → exec (i b) s = .next (s.replied (i b) .notDefined))) ∧
    (let i := Instr.feedRelease h f.val
     s.passes i = true → (s.feed f).state = .defined → s.routed f = false →
     ∃ t, exec i s = .next t ∧ t.feed f = { mutes := { faultLatch := (s.feed f).mutes.faultLatch } } ∧
       (∀ g, g ≠ f → t.feed g = s.feed g) ∧ t.still = State.still
       ((((s.replied i .done).updFeed f fun _ => {}).setLane (s.laneOf f) ⟨0, 0⟩).setDonorView (s.feed f).port
         (!(s.monitor (s.feed f).port).locked && (indices 32).any fun g => g ≠ f && s.onPort (s.feed f).port g)))

/-- A lock input that rises starts a qualification of 100 ms in UNLOCKED, one that falls starts 10 ms in LOCKED, and the other
changes stop it; the port enters LOCKED or UNLOCKED once qualified, and DONOR_DOWN of its feeds that are not FREE and DONOR_LOST
follow (R17, R18). The lanes keep the sample last sent until the next (notes/assumptions/24.md). -/
def Obligations.DonorPorts : Prop :=
  ∀ (p : PortId) (b : Bool) (s : State), s.mp.pinAsserted = false →
    ((s.monitor p).lockInput ≠ b → exec (.lockInputChange p b) s = .next (s.updMonitor p fun m =>
      { m with lockInput := b, qual := if m.locked = b then none else some (if b then 100 else 10) })) ∧
    (let i : Instr := if b then .donorPortLocked p else .donorPortUnlocked p
     (s.monitor p).locked ≠ b → (s.monitor p).lockInput = b → (s.monitor p).qual ≠ none → ∃ t, exec i s = .next t ∧
      t.still = State.still
        (((s.updMonitor p fun m => { m with locked := b, qual := none }).mapFeeds (s.onPort p) fun r =>
          { r with mutes := { r.mutes with donorDown := !b } }).setDonorView p (!b && (indices 32).any (s.onPort p))))

/-! ### Zones and routes (spec/02) -/

/-- ZONE_DEFINE on defines or relabels a zone, a new one starting NORMAL; off undefines a zone that no route names, no unit
is a member of and no plan homes a unit in, releasing its hold (R23, R24). -/
def Obligations.ZoneDefine : Prop :=
  ∀ (h : Hdr) (z : ZoneId) (label : List Octet) (s : State),
    let on := Instr.zoneDefineOn h (zoneNum z) label
    let off := Instr.zoneDefineOff h (zoneNum z)
    (s.passes on = true → labelOk label = true →
      ((s.zone z).defined = true → exec on s = .next ((s.replied on .done).updZone z fun _ => ⟨true, label⟩)) ∧
      ((s.zone z).defined = false → exec on s = .next (((s.replied on .done).updZone z fun _ => ⟨true, label⟩).updLoad z fun r =>
        { r with temp := .normal, hotDwell := 0, coolDwell := 0 }))) ∧
    (s.passes off = true → (s.zone z).defined = true → (∀ i r, s.holds i r → r.zone ≠ z) → (∀ u, s.isMember u z = false) →
      (∀ n u, Vector.get (s.bank n).homes u ≠ some z) →
      ∃ t, exec off s = .next t ∧
        t.still = ((((s.replied off .done).updZone z fun _ => {}).setHold z none).updLoad z fun _ => {}).still)

/-- ROUTE_ADD rewrites the route of a present key in its way; otherwise it refuses CONFLICT with another feed of the operator
and slot in the zone, refuses SET_FULL where both ways of the key's set are taken, and inserts in way 0 first
(R28, R29, R30); the octets of set index, way, UPDATED 00h and INSERTED 01h are those of notes/assumptions/22.md. ROUTE_LEVEL writes the level, and the
uplink enable it carries, into a present route; ROUTE_REMOVE frees its way; both name the set and way, and refuse or answer NONE
where no route has the key (R31, R32). -/
def Obligations.RoutesAreWritten : Prop :=
  (∀ (h : Hdr) (f : FeedId) (z : ZoneId) (level : Int) (uplink : Option Bool) (k : Fin 64) (s : State),
    let i := Instr.routeAdd h f.val (zoneNum z) level (uplink.map some)
    let route : Route := ⟨f, z, level, uplink.getD true⟩
    s.passes i = true → levelOk level = true → (s.feed f).state ≠ .free → (s.zone z).defined = true →
    s.keySet f z = some k →
    (∀ way old, (s.routeSet k).find f z = some (way, old) → ∃ t, exec i s = .next t ∧
      t.still = ((s.replied i .done [.o1 k.val, .o1 way, .o1 0]).updSet k (·.put way (some route))).still) ∧
    ((s.routeSet k).find f z = none → ∀ g, s.conflictIn f z = some g →
      exec i s = .next (s.replied i .conflict [.o1 g.val])) ∧
    ((s.routeSet k).find f z = none → s.conflictIn f z = none → ∀ a b, s.routeSet k = ⟨some a, some b⟩ →
      exec i s = .next (s.replied i .setFull
        [.o1 k.val, .o1 a.feed.val, .o1 (zoneNum a.zone), .o1 b.feed.val, .o1 (zoneNum b.zone)])) ∧
    ((s.routeSet k).find f z = none → s.conflictIn f z = none → ∀ way, (s.routeSet k).freeWay = some way →
      ∃ t, exec i s = .next t ∧
        t.still = ((s.replied i .done [.o1 k.val, .o1 way, .o1 1]).updSet k (·.put way (some route))).still)) ∧
  ∀ (h : Hdr) (f : FeedId) (z : ZoneId) (level : Int) (uplink : Option Bool) (s : State),
    let set := Instr.routeLevel h f.val (zoneNum z) level (uplink.map some)
    let remove := Instr.routeRemove h f.val (zoneNum z)
    (s.passes set = true → levelOk level = true →
      (∀ k way old, s.locate f z = some (k, way, old) → ∃ t, exec set s = .next t ∧
        t.still = ((s.replied set .done [.o1 k.val, .o1 way]).updSet k
          (·.put way (some ⟨f, z, level, uplink.getD old.uplink⟩))).still) ∧
      (s.locate f z = none → exec set s = .next (s.replied set .notDefined))) ∧
    (s.passes remove = true →
      (∀ k way old, s.locate f z = some (k, way, old) → ∃ t, exec remove s = .next t ∧
        t.still = ((s.replied remove .done [.o1 k.val, .o1 way]).updSet k (·.put way none)).still) ∧
      (s.locate f z = none → exec remove s = .next (s.replied remove .none)))

/-! ### Fibre links (spec/03) -/

/-- LINK_ENABLE starts an OFF link in PREAMBLE, the end of the preamble brings it to ALIGNING with the timer at 250 ms, and
LINK_LOOPBACK off leads from LOOPBACK back to PREAMBLE; each posts its LINK notice. LINK_ENABLE is answered NONE on a link that
is not OFF, and BAD_VALUE for a number above 11 (R40, R41, R55, R58). The preamble count set to 512 in one step, and the
numbering attempt kept on leaving LOOPBACK, are the model's choices (notes/assumptions/26.md, 39.md), and so are the octets of the LINK
notice (22.md). -/
def Obligations.LinkStarts : Prop :=
  ∀ (h : Hdr) (l : LinkId) (s : State),
    let on := Instr.linkEnable h l.val
    let back := Instr.linkLoopbackOff h l.val
    (s.passes on = true → (s.link l).state = .off → exec on s = .next
      (((((s.handed on).updLink l fun r =>
        { r with state := .preamble, preambleFrames := 0, noise := 0, noiseTimer := some 1000 }).linkNotice l .enable)).reply
          0x11 h .done)) ∧
    (s.passes on = true → (s.link l).state ≠ .off → exec on s = .next (s.replied on .none)) ∧
    (∀ n, 12 ≤ n → s.passes (.linkEnable h n) = true →
      exec (.linkEnable h n) s = .next (s.replied (.linkEnable h n) .badValue)) ∧
    (s.mp.pinAsserted = false → (s.link l).state = .preamble → exec (.preambleEnd l) s = .next
      ((s.updLink l fun r =>
        { r with state := .aligning, preambleFrames := 512, goodRun := 0, badRun := 0, zeroRun := 0, chain := none,
                 alignTimer := some 250, numberWait := none, slot := none }).linkNotice l .preambleEnd)) ∧
    (s.passes back = true → (s.link l).state = .loopback → exec back s = .next
      (((((s.handed back).updLink l fun r =>
        { r with state := .preamble, loopback := false, looped := false, alignTimer := none, preambleFrames := 0, goodRun := 0,
                 badRun := 0, zeroRun := 0 }).linkNotice l .loopbackOff)).reply 0x14 h .done))

/-- LINK_DISABLE, LINK_RESTART and LINK_LOOPBACK on take the link from its chain: its transaction ends, an outstanding relay
answered ABSENT with one word of ones, each queued relay is answered LINK_STATE in queue order, and the request's own DONE comes
after these; its units become ABSENT, and their migrations end, queued or in flight (R52, R53, R56, R57, R83). That LINK_LOOPBACK on keeps the
numbering attempt is the model's choice (notes/assumptions/39.md); outstanding
is a transaction that the arbiter has started, or a survey's whose first request word has been sent (R51, R53,
notes/assumptions/19.md). The count octet before the word of ones is the choice of notes/assumptions/43.md, and that the DONE
comes last that of 16.md. -/
def Obligations.LinkTakenDown : Prop :=
  ∀ (h : Hdr) (l : LinkId) (s : State),
    let relayEnds : List Reply :=
      (match (s.arbiter l).txn.map (·.requester) with
       | some (.relay tag) => [{ kind := 0x99, tag := tag, result := .absent, fields := [.o1 1, .o4 0xFFFFFFFF] }]
       | _ => []) ++
      (s.arbiter l).relays.map fun e => { kind := 0x99, tag := e.tag, result := .linkState, fields := [] }
    let took (i : Instr) (code : Nat) (g : LinkRec → LinkRec) : Prop := ∃ t, exec i s = .next t ∧
      t.calm = ((((s.handed i).updLink l g).chainLost l).reply code h .done).calm ∧
      t.mp.replies = s.mp.replies ++ relayEnds ++ [{ kind := code + 0x80, tag := h.tag, result := .done, fields := [] }] ∧
      t.mp.owed = s.mp.owed - relayEnds.length ∧
      t.arbiter l = { s.arbiter l with txn := none, relays := [], toSurvey := [] } ∧
      (∀ u, linkOf u = l → s.serving u = true → t.blend u = none) ∧
      ∀ u, linkOf u = l → (s.unit u).state ≠ .absent → t.isQueued u = false
    (s.passes (.linkDisable h l.val) = true → (s.link l).state ≠ .off → took (.linkDisable h l.val) 0x12 fun r =>
      { generation := r.generation, lastWindow := r.lastWindow, testCounter := r.testCounter, loopErrors := r.loopErrors }) ∧
    (s.passes (.linkRestart h l.val) = true → (s.link l).state ≠ .off → took (.linkRestart h l.val) 0x13 fun r =>
      { generation := r.generation, state := .preamble, noise := r.noise, lastWindow := r.lastWindow, noiseTimer := r.noiseTimer,
        view := r.view, testCounter := r.testCounter, loopErrors := r.loopErrors }) ∧
    (s.passes (.linkLoopbackOn h l.val) = true → (s.link l).state ≠ .off → (s.link l).state ≠ .loopback →
      (s.link l).state ≠ .numbering → (∀ x, (s.arbiter l).txn = some x → x.requester = .survey ∧ x.attempt ≤ 1 ∧ x.sent = 0) →
      took (.linkLoopbackOn h l.val) 0x14 fun r =>
        { r with state := .loopback, loopback := true, looped := false, chain := none, testCounter := 0, loopErrors := 0,
                 alignTimer := some 250, goodRun := 0, badRun := 0, zeroRun := 0, view := { noisy := r.view.noisy }, slot := none }) ∧
    (s.passes (.linkLoopbackOn h l.val) = true → (s.link l).state ≠ .off → (s.link l).state ≠ .loopback →
      (s.link l).state = .numbering ∨ (∃ x, (s.arbiter l).txn = some x ∧ (x.requester ≠ .survey ∨ 1 < x.attempt ∨ 0 < x.sent)) →
      exec (.linkLoopbackOn h l.val) s = .next (s.replied (.linkLoopbackOn h l.val) .linkBusy))

/-- Markers. In the hunt of ALIGNING the third good one in a row raises the generation, modulo 16, and begins NUMBERING with its
word in the control slot and LINK_NO_ALIGN inactive; in the hunt of LOOPBACK it finds looped alignment, the alignment timer
stopped; others write the good run alone. In NUMBERING, SURVEY and RUNNING, and under looped alignment, short of a loss, they
change the runs, and a one-bit marker the noise count, and nothing else but the control slot; and four bad ones in a row end
looped alignment, the hunt begun again with the timer at 250 ms (R42, R43, R44, R47, R54, R59). That a marker ends the frame that
carries a word in its control slot is the model's choice (notes/assumptions/48.md). -/
def Obligations.MarkersAreJudged : Prop :=
  ∀ (l : LinkId) (s : State), s.mp.pinAsserted = false →
    let r := s.link l
    let hunting := r.state = .aligning ∨ (r.state = .loopback ∧ r.looped = false)
    let established := r.state = .numbering ∨ r.state = .survey ∨ r.state = .running ∨ (r.state = .loopback ∧ r.looped = true)
    (∀ m : Marker, markerGood m = true → 2 ≤ r.goodRun →
      (r.state = .aligning → ∃ t, exec (.markerReceived l m) s = .next t ∧
        t.still = (s.updLink l fun r =>
          { r with state := .numbering, generation := (r.generation + 1) % 16, attempt := 1, numberWait := some 2,
                   slot := some (.number l.val ((r.generation + 1) % 16) 0), alignTimer := none, goodRun := 3, badRun := 0,
                   zeroRun := 0, view := { r.view with noAlign := false } }).still) ∧
      (r.state = .loopback → r.looped = false → ∃ t, exec (.markerReceived l m) s = .next t ∧
        t.still = (s.updLink l fun r =>
          { r with looped := true, alignTimer := none, goodRun := 3, badRun := 0, zeroRun := 0,
                   view := { r.view with noAlign := false } }).still)) ∧
    (hunting → ∀ m : Marker,
      (markerGood m = true → r.goodRun < 2 →
        exec (.markerReceived l m) s = .next (s.updLink l fun r => { r with goodRun := r.goodRun + 1 })) ∧
      (markerGood m = false → exec (.markerReceived l m) s = .next (s.updLink l fun r => { r with goodRun := 0 }))) ∧
    (established →
      (∀ n : Fin 17, n.val ≤ 1 → exec (.markerReceived l (.differs n)) s = .next (s.updLink l fun r =>
        { r with goodRun := min 3 (r.goodRun + 1), badRun := 0, zeroRun := 0, slot := none,
                 noise := if n.val = 1 then min 65535 (r.noise + 1) else r.noise })) ∧
      (∀ n : Fin 17, 1 < n.val → r.badRun < 3 → exec (.markerReceived l (.differs n)) s = .next (s.updLink l fun r =>
        { r with goodRun := 0, badRun := r.badRun + 1, zeroRun := 0, slot := none })) ∧
      ((r.state ≠ .loopback → r.zeroRun < 7) → (r.state = .loopback → r.badRun < 3) →
        exec (.markerReceived l .allZero) s = .next (s.updLink l fun r =>
          { r with goodRun := 0, badRun := min 255 (r.badRun + 1), zeroRun := min 8 (r.zeroRun + 1), slot := none }))) ∧
    (r.state = .loopback → r.looped = true → 3 ≤ r.badRun → ∀ m : Marker, markerGood m = false →
      ∃ t, exec (.markerReceived l m) s = .next t ∧ t.still = (s.updLink l fun r =>
        { r with looped := false, alignTimer := some 250, goodRun := 0, badRun := 0, zeroRun := 0, slot := none }).still)

/-- Four or more bad markers in a row, the last not all zero, or eight all-zero markers in a row lose alignment: the link hunts
again in ALIGNING, without a chain count, its units ABSENT (R44, R52). That a loss from NUMBERING keeps the numbering attempt is
the model's choice (notes/assumptions/39.md). -/
def Obligations.AlignmentIsLost : Prop :=
  ∀ (l : LinkId) (s : State), s.mp.pinAsserted = false →
    (s.link l).state = .numbering ∨ (s.link l).state = .survey ∨ (s.link l).state = .running →
    let lost (i : Instr) : Prop := ∃ t, exec i s = .next t ∧
      t.calm = ((s.updLink l fun r =>
        { r with state := .aligning, goodRun := 0, badRun := 0, zeroRun := 0, chain := none, alignTimer := some 250,
                 numberWait := none, slot := none }).chainLost l).calm
    (∀ n : Fin 17, 1 < n.val → 3 ≤ (s.link l).badRun → lost (.markerReceived l (.differs n))) ∧
    (7 ≤ (s.link l).zeroRun → lost (.markerReceived l .allZero))

/-- The timers of a link and its loopback test: the alignment timer makes LINK_NO_ALIGN active; the noise window closes over its
count, LINK_NOISY active above 16 and inactive up to 4; and in LOOPBACK a test word that differs under looped alignment is an
error, the counter rising in every frame (R45, R46, R54); that the word is compared with the counter before it rises, and under
looped alignment alone, is the model's choice (notes/assumptions/20.md). -/
def Obligations.LinkTimersAndTest : Prop :=
  ∀ (l : LinkId) (s : State), s.mp.pinAsserted = false →
    ((s.link l).alignTimer ≠ none → ∃ t, exec (.alignmentTimerExpiry l) s = .next t ∧
      t.still = (s.updLink l fun r => { r with alignTimer := none, view := { r.view with noAlign := true } }).still) ∧
    ((s.link l).noiseTimer ≠ none → ∃ t, exec (.noiseWindowExpiry l) s = .next t ∧
      t.still = (s.updLink l fun r =>
        { r with lastWindow := r.noise, noise := 0, noiseTimer := some 1000,
                 view := { r.view with
                   noisy := if 16 < r.noise then true else if r.noise ≤ 4 then false else r.view.noisy } }).still) ∧
    ∀ w : Word, (s.link l).state = .loopback → ∃ t, exec (.loopbackTestWord l w) s = .next t ∧
      t.still = (s.updLink l fun r =>
        { r with testCounter := (r.testCounter + 1) % 65536,
                 loopErrors := if r.looped = true ∧ w.toNat ≠ r.testCounter then min 65535 (r.loopErrors + 1)
                   else r.loopErrors }).still

/-- Numbering: the returning word of this link and generation fixes the chain count, an empty chain being RUNNING and any other
surveyed from position 1 on; a time-out sends the NUMBER word again, with link, generation and a counter of 0, in the control
slot of the next frame, whose payload is zeros, and the slot is idle once a marker has ended that frame; the third time-out fails
with a loss of alignment (R37, R47, R48, R49, R51, R70). That a returning marker ends the frame, that an empty chain clears
UNIT_SILENT of all four positions, and that a failure keeps the attempt, are the model's choices (notes/assumptions/48.md, 21.md,
39.md). -/
def Obligations.Numbering : Prop :=
  ∀ (l : LinkId) (n : Nat) (s : State), s.mp.pinAsserted = false → (s.link l).state = .numbering →
    (s.link l).numberWait ≠ none →
    let counted (st : LinkState) : State := s.updLink l fun r =>
      { r with state := st, chain := some n, attempt := 0, numberWait := none,
               view := { r.view with empty := n = 0, overlength := 4 < n } }
    let unseen (x : State) : State := x.mapUnits (fun u => linkOf u = l && n ≤ (posOf u).val) fun _ r =>
      { r with view := { r.view with silent := false } }
    let word := Instr.numberWordReturn l l.val (s.link l).generation n
    (n = 0 → ∃ t, exec word s = .next t ∧ t.still = (unseen (counted .running)).still) ∧
    (n ≠ 0 → ∃ t, exec word s = .next t ∧ t.still = ((unseen (counted .survey)).updArbiter l fun a =>
      { a with txn := some { requester := .survey, kind := .ident, target := some 0, data := [] },
               toSurvey := (indices 4).filter fun p => 1 ≤ p.val && p.val < n }).still) ∧
    (∀ wordLink gen, wordLink ≠ l.val ∨ gen ≠ (s.link l).generation →
      exec (.numberWordReturn l wordLink gen n) s = .next s) ∧
    ((s.link l).attempt < 3 → ∃ t, exec (.numberTimeout l) s = .next t ∧
      t = (s.updLink l fun r => { r with attempt := r.attempt + 1, numberWait := some 2, slot := some (.number l.val r.generation 0) }) ∧
      t.downlink l = .frames (.number l.val (s.link l).generation 0) (List.replicate 4 ⟨0, 0⟩) ∧
      ∃ t', exec (.markerReceived l (.differs 0)) t = .next t' ∧
        t'.downlink l = .frames (.idle (s.link l).generation) (List.replicate 4 ⟨0, 0⟩)) ∧
    (3 ≤ (s.link l).attempt → ∃ t, exec (.numberTimeout l) s = .next t ∧
      t.calm = ((s.updLink l fun r =>
        { r with state := .aligning, goodRun := 0, badRun := 0, zeroRun := 0, chain := none, alignTimer := some 250,
                 numberWait := none, slot := none }).chainLost l).calm)

/-! ### Remote units and the control channel (spec/04) -/

/-- On a RUNNING link without a transaction the arbiter starts a CONFIG for the lowest position with config due, and otherwise a
relay or a poll, alternating where both wait (R69, R75). How the ages of two polls that are due compare is the model's choice
(notes/assumptions/18.md). -/
def Obligations.ArbiterStarts : Prop :=
  ∀ (l : LinkId) (s : State), s.mp.pinAsserted = false → (s.link l).state = .running → (s.arbiter l).txn = none →
    let due (p : PosId) : Bool := (s.unit (unitAt l p)).configDue
    (∀ p, due p = true → (∀ q, q < p → due q = false) →
      let set := (s.unit (unitAt l p)).wanted
      exec (.transactionStart l) s = .next ((s.updUnit (unitAt l p) fun r => { r with configDue := false }).updArbiter l fun a =>
        { a with txn := some { requester := .config set, kind := .config, target := some p, data := s.configData set } })) ∧
    ((∀ p, due p = false) → ∀ e rest, (s.arbiter l).relays = e :: rest →
      s.nextPoll l = none ∨ (s.arbiter l).lastPoll = true →
      exec (.transactionStart l) s = .next (s.updArbiter l fun a =>
        { a with txn := some { requester := .relay e.tag, kind := .relay, target := e.target, data := e.payload.map .word },
                 relays := rest, lastPoll := false })) ∧
    ((∀ p, due p = false) → ∀ p, s.nextPoll l = some p → (s.arbiter l).relays = [] ∨ (s.arbiter l).lastPoll = false →
      exec (.transactionStart l) s = .next ((s.updUnit (unitAt l p) fun r => { r with pollDue := false }).updArbiter l fun a =>
        { a with txn := some { requester := .poll, kind := .status, target := some p, data := [] }, lastPoll := true }))

/-- The words of an attempt: each word sent goes out in the control slot and is counted, and the last starts the 2 ms window; a
matching echo is counted, and one that differs abandons the attempt with a CHAIN_ECHO occurrence of the word returned; the
header of the attempt's reply is taken; a window that expires, up to the third attempt, is a miss that the next attempt
follows 1 ms later, with its number raised by 1; a BUSY reply, whole and with every echo matched, ends the attempt so too, and on
the fourth attempt has the outcome of a miss, as an echo that differs has behind its report; and a reply word of another
generation, position or attempt number changes nothing, nor does any to a request to "all", whose attempt ends with its last echo
(R37, R50, R65, R66, R67, R68). That a BUSY reply waits for the echoes is the model's choice (notes/assumptions/19.md), that one
which counts data words, as R65 has none do, is BUSY once they are in, that of 55.md, and the word returned, as the detail of
CHAIN_ECHO, is a free value (11.md). -/
def Obligations.AttemptWords : Prop :=
  ∀ (l : LinkId) (x : Txn) (s : State), s.mp.pinAsserted = false → (s.link l).state.carries = true →
    (s.arbiter l).txn = some x →
    let put (y : Txn) : Out := .next (s.updArbiter l fun a => { a with txn := some y })
    let reply (p : PosId) (part : ReplyPart) : Instr := .replyWordReceived l ⟨p.val + 1, (s.link l).generation, x.attempt, part⟩
    let busy (i : Instr) (y : Txn) : Prop := (x.attempt < 4 → exec i s = put { y with spacing := some 1, window := none }) ∧
      (x.attempt = 4 → exec i s = exec (.replyWindowExpiry l) s)
    (x.spacing = none → x.sent < x.data.length + 1 → ∃ t, exec (.requestWordSent l) s = .next t ∧
      t.slotWord l = x.word l (s.link l).generation x.sent ∧
      t = (s.updLink l fun r => { r with slot := some (x.word l r.generation x.sent) }).updArbiter l fun a =>
        { a with txn := some { x with sent := x.sent + 1, window := if x.sent = x.data.length then some 2 else x.window } }) ∧
    (x.spacing = none → x.header = none → x.echoed < x.sent → x.target ≠ none ∨ x.echoed < x.data.length → ∀ w,
      isRequestWord w = true → w = x.word l (s.link l).generation x.echoed →
      exec (.echoReceived l w) s = put { x with echoed := x.echoed + 1 }) ∧
    (x.spacing = none → x.target = none → x.echoed = x.data.length → x.echoed < x.sent → ∀ w, isRequestWord w = true →
      w = x.word l (s.link l).generation x.echoed → exec (.echoReceived l w) s = .next (settle (finish l x (some []) s))) ∧
    (x.spacing = none → x.echoed < x.sent → ∀ w, isRequestWord w = true → w ≠ x.word l (s.link l).generation x.echoed →
      let r := report .chainEcho (.link l) .occurred (Config.ctrlWordImage w) s
      (x.attempt < 4 → exec (.echoReceived l w) s = .next (settle
        (r.1.updArbiter l fun a => { a with txn := some { x with spacing := some 1, window := none } }, r.2))) ∧
      (x.attempt = 4 → exec (.echoReceived l w) s = .next (settle (thenWork r (finish l x none))))) ∧
    (∀ p, x.target = some p → x.spacing = none → x.header = none → x.replyData = [] → x.window ≠ none → ∀ busy count, 0 < count →
      exec (reply p (.header busy count)) s =
        put { x with header := some (busy, count) }) ∧
    (∀ p, x.target = some p → x.spacing = none → x.window ≠ none → x.echoed = x.data.length + 1 →
      (x.header = none → x.replyData = [] → busy (reply p (.header true 0)) { x with header := some (true, 0) }) ∧
      (x.header = some (true, x.replyData.length + 1) → ∀ d, busy (reply p (.data d)) { x with replyData := x.replyData ++ [d] })) ∧
    (x.target ≠ none → x.spacing = none → x.window ≠ none → x.echoed = x.data.length → x.echoed < x.sent →
      x.header = some (true, x.replyData.length) → ∀ w, isRequestWord w = true → w = x.word l (s.link l).generation x.echoed →
      busy (.echoReceived l w) { x with echoed := x.echoed + 1 }) ∧
    (∀ w : ReplyWord, w.gen ≠ (s.link l).generation ∨ (∀ p, x.target = some p → w.pos ≠ p.val + 1) ∨ w.attempt ≠ x.attempt →
      exec (.replyWordReceived l w) s = .next s) ∧
    (x.spacing = none → x.window ≠ none →
      (x.attempt < 4 → exec (.replyWindowExpiry l) s = put { x with spacing := some 1, window := none }) ∧
      (x.attempt = 4 → exec (.replyWindowExpiry l) s = .next (settle (finish l x none s)))) ∧
    (x.spacing ≠ none → exec (.nextAttempt l) s =
      put { x with attempt := x.attempt + 1, sent := 0, echoed := 0, header := none, replyData := [], window := none,
                   spacing := none })

/-- The outcome of a survey's IDENT of an ABSENT unit. A complete valid record makes it CONFIGURING with that identity, its band mask,
a CONFIG due, a poll timer and UNIT_SILENT inactive; another serial number than the last is logged as UNIT_REPLACED, and the
same or a first one is not; a record that is not valid ends the attempt when the reply is complete, the model's choice
(notes/assumptions/42.md); and a fourth miss makes UNIT_SILENT active with detail 1. The survey then goes to the next position, or
ends with the link RUNNING and its LINK notice (R51, R70, R71, R72, R73). The order of the notices of a fourth miss, FAULT, UNIT, LINK,
is the model's choice (notes/assumptions/16.md), and so are the octets of the UNIT and LINK notices, the unit index in one octet
among them (notes/assumptions/22.md, 50.md). -/
def Obligations.SurveyOutcomes : Prop :=
  ∀ (l : LinkId) (x : Txn) (p : PosId) (s : State), s.mp.pinAsserted = false → (s.link l).state.carries = true →
    (s.arbiter l).txn = some x → x.requester = .survey → x.kind = .ident → x.target = some p → x.spacing = none →
    x.window ≠ none → (s.unit (unitAt l p)).state = .absent →
    let u := unitAt l p
    let free := s.updArbiter l fun a => { a with txn := none }
    let next (q : PosId) (rest : List PosId) (y : State) : State := y.updArbiter l fun a =>
      { a with txn := some { requester := .survey, kind := .ident, target := some q, data := [] }, toSurvey := rest }
    let running (y : State) : State := y.updLink l fun r => { r with state := .running }
    (x.echoed = x.data.length + 1 → x.header = some (false, x.replyData.length + 1) → ∀ d : DataWord,
      let last := Instr.replyWordReceived l ⟨p.val + 1, (s.link l).generation, x.attempt, .data d⟩
      (∀ (ty : Nat) (serial : Word) (power : Nat) (ranges : List (Nat × Nat)),
        x.replyData ++ [d] = .typeCode ty :: .serial serial :: .power power :: ranges.map (fun r => .range r.1 r.2) →
        1 ≤ ty → ty ≤ 254 → power ≤ 400 → 1 ≤ ranges.length → ranges.length ≤ 4 →
        (∀ r ∈ ranges, r.1 < r.2 ∧ 100 ≤ r.1 ∧ r.2 ≤ 7000) →
        let id : Identity := ⟨ty, serial, power, ranges⟩
        let known := free.updUnit u fun r =>
          { r with state := .configuring, identity := some id, mask := bandMask (some id) s.tu.bands, lastSerial := serial,
                   missCount := 0, configured := none, pollTimer := some s.um.pollInterval,
                   view := { r.view with silent := false } }
        let was := (s.unit u).lastSerial
        ∃ t, exec last s = .next t ∧ (t.unit u).configDue = true ∧
          (∀ q rest, (s.arbiter l).toSurvey = q :: rest → t.still = (next q rest known).still) ∧
          ((s.arbiter l).toSurvey = [] → t.still = (running known).still) ∧
          (was ≠ 0 → was ≠ serial → s.fu.log.length < 32 →
            ∃ e ∈ t.fu.log, e.kind = .unitReplaced ∧ e.source = .unit u ∧ e.detail = serial) ∧
          (was = 0 ∨ was = serial → ∀ e ∈ t.fu.log, e.kind = .unitReplaced → e.source = .unit u → e ∈ s.fu.log)) ∧
      (validIdentity (x.replyData ++ [d]) = none → x.attempt < 4 → exec last s = .next (s.updArbiter l fun a =>
        { a with txn := some { x with replyData := x.replyData ++ [d], spacing := some 1, window := none } }))) ∧
    (x.attempt = 4 →
      let silent := reportChange .unitSilent (.unit u) (s.unit u).view.silent true 1
        (free.updUnit u fun r => { r with view := { r.view with silent := true } })
      let told := silent.1.post .unit [.o1 u.val, .o1 l.val, .o1 (p.val + 1), .o1 0, .o1 1]
      (∀ q rest, (s.arbiter l).toSurvey = q :: rest →
        exec (.replyWindowExpiry l) s = .next (settle (next q rest told, silent.2))) ∧
      ((s.arbiter l).toSurvey = [] → exec (.replyWindowExpiry l) s =
        .next (settle ((running told).linkNotice l .surveyDone, silent.2))))

/-- Outcomes. An acknowledged CONFIG makes a CONFIGURING unit SERVING with the band set sent as its configured set, and a SERVING
unit's configured set the one sent, in force for its busy window from there on, with a CONFIG due again where another set is wanted by now;
a failed one leaves a CONFIGURING or SERVING unit config failed and any other as it was (R75, R82, R112). A poll of a SERVING unit:
its STATUS reply without RESTARTED clears the miss count and gives temperature, alarms and a new poll timer, with RESTARTED the
unit becomes CONFIGURING without a configured set; and the third failed poll in a row makes it FAILED with UNIT_SILENT active. A
FAILED unit whose STATUS arrives becomes CONFIGURING with a CONFIG due, UNIT_SILENT inactive (R77, R78, R79, R80, R81). That State
holds the sets that were in force earlier in a busy window is the model's choice (notes/assumptions/25.md). -/
def Obligations.OutcomesOfTransactions : Prop :=
  (∀ (l : LinkId) (x : Txn) (p : PosId) (sent : BitVec 8) (s : State), s.mp.pinAsserted = false →
    (s.link l).state.carries = true → (s.arbiter l).txn = some x → x.requester = .config sent → x.kind = .config →
    x.target = some p → x.spacing = none → x.window ≠ none →
    let free := s.updArbiter l fun a => { a with txn := none }
    let acknowledged := Instr.replyWordReceived l ⟨p.val + 1, (s.link l).generation, x.attempt, .header false 0⟩
    (x.header = none → x.replyData = [] → x.echoed = x.data.length + 1 →
      ((s.unit (unitAt l p)).state = .configuring → ∃ t, exec acknowledged s = .next t ∧
        t.calm = (free.updUnit (unitAt l p) fun r => { r with state := .serving, configured := some sent }).calm) ∧
      ((s.unit (unitAt l p)).state = .serving → exec acknowledged s = .next
        ((free.updUnit (unitAt l p) fun r =>
          if r.wanted ≠ sent then { r with configured := some sent, configDue := true, configFailed := false }
          else { r with configured := some sent }).updMeasure (unitAt l p) fun m =>
            { m with earlierSets := m.earlierSets ++ [(s.unit (unitAt l p)).configured.getD 0] }))) ∧
    (x.attempt = 4 → exec (.replyWindowExpiry l) s = .next (free.updUnit (unitAt l p) fun r =>
      if r.state = .configuring ∨ r.state = .serving then { r with configFailed := true } else r))) ∧
  ∀ (l : LinkId) (x : Txn) (p : PosId) (s : State), s.mp.pinAsserted = false → (s.link l).state.carries = true →
    (s.arbiter l).txn = some x → x.requester = .poll → x.kind = .status → x.target = some p → x.spacing = none →
    x.window ≠ none →
    let free := s.updArbiter l fun a => { a with txn := none }
    let seen (a : Alarms) (temp : Int) (r : UnitRec) : UnitRec :=
      { r with missCount := 0, temperature := some temp, pollTimer := some s.um.pollInterval,
               view := { r.view with paHot := a.paHot, vswr := a.vswr, supply := a.supply } }
    let left (y : State) : State := y.updMeasure (unitAt l p) fun m => { m with measuring := false }
    (x.echoed = x.data.length + 1 → x.header = some (false, 1) → x.replyData = [] → ∀ (a : Alarms) (temp : Int),
      let word : ReplyWord := ⟨p.val + 1, (s.link l).generation, x.attempt, .data (.status a temp)⟩
      (s.serving (unitAt l p) = true → a.restarted = false → ∃ t, exec (.replyWordReceived l word) s = .next t ∧
        t.still = (free.updUnit (unitAt l p) (seen a temp)).still) ∧
      (s.serving (unitAt l p) = true → a.restarted = true → ∃ t, exec (.replyWordReceived l word) s = .next t ∧
        t.calm = (left (free.updUnit (unitAt l p) fun r =>
          { seen a temp r with state := .configuring, configured := none })).calm) ∧
      ((s.unit (unitAt l p)).state = .failed → ∃ t, exec (.replyWordReceived l word) s = .next t ∧
        (t.unit (unitAt l p)).configDue = true ∧
        t.still = (free.updUnit (unitAt l p) fun r =>
          let r := seen a temp r
          { r with state := .configuring, configured := none, view := { r.view with silent := false } }).still)) ∧
    (s.serving (unitAt l p) = true → x.attempt = 4 → (s.unit (unitAt l p)).missCount = 2 →
      ∃ t, exec (.replyWindowExpiry l) s = .next t ∧
      t.calm = (left (free.updUnit (unitAt l p) fun r =>
        { r with state := .failed, missCount := 3, pollTimer := some s.um.pollInterval,
                 view := { r.view with silent := true } })).calm)

/-- A poll timer's expiry makes a poll due; UNIT_SET writes the settings it carries; UNIT_MUTE adds and removes ISSUER_MUTE in
every state of the unit (R77, R85, R86). The clock held for a poll that is due, and that a UNIT_SET without a field is accepted, are the
model's choices (notes/assumptions/18.md, 52.md). -/
def Obligations.UnitSettings : Prop :=
  ∀ (h : Hdr) (u : UnitId) (s : State),
    (s.mp.pinAsserted = false → (s.unit u).pollTimer ≠ none → ∃ t, exec (.pollTimerExpiry u) s = .next t ∧
      t.still = (s.updUnit u fun r => { r with pollTimer := none, pollDue := true, pollDueAt := s.fu.clock }).still) ∧
    (∀ (atten : Option Nat) (threshold : Option Int) (eligible : Option (BitVec 32)),
      let i := Instr.unitSet h (.index u.val) atten threshold eligible
      s.passes i = true → (∀ n, atten = some n → n ≤ 63) → (∀ n, threshold = some n → -900 ≤ n ∧ n ≤ 0) →
      (∀ e, eligible = some e → e.toNat < 2 ^ 24) → ∃ t, exec i s = .next t ∧
        t.still = ((s.replied i .done).updUnit u fun r =>
          { r with atten := atten.getD r.atten, threshold := threshold.getD r.threshold,
                   eligible := (eligible.map (·.setWidth 24)).getD r.eligible }).still) ∧
    ∀ b : Bool,
      let i : Instr := if b then .unitMuteOn h (.index u.val) else .unitMuteOff h (.index u.val)
      s.passes i = true → ∃ t, exec i s = .next t ∧
        t.still = ((s.replied i .done).updUnit u fun r => { r with mutes := { r.mutes with issuerMute := b } }).still

/-- UNIT_RELAY: refused BAD_VALUE for a link, position or number of words out of range, LINK_STATE off a RUNNING link, ABSENT for a
position whose unit is, QUEUE_FULL at 4 entries, and otherwise queued with one reply more owed and no reply yet (R87, R190). Its
transaction ends with the reply owed: DONE with the unit's words, none among them, when the last of the words and echoes has come,
DONE without words for "all" once the words have returned, and ABSENT with one word of ones after a fourth miss, by window or
echo, to a position or "all" (R66, R67, R68, R88). That the words are a list with a count is the model's choice
(notes/assumptions/43.md), and so is that more than the 16 of R88 are returned whole (55.md). -/
def Obligations.RelayIsQueued : Prop :=
  (∀ (h : Hdr) (n : Nat) (pos : NumSel) (payload : List Word) (s : State), s.passes (.unitRelay h n pos payload) = true →
    12 ≤ n ∨ (∃ k, pos = .one k ∧ (k < 1 ∨ 4 < k)) ∨ payload.length < 1 ∨ 16 < payload.length →
    exec (.unitRelay h n pos payload) s = .next (s.replied (.unitRelay h n pos payload) .badValue)) ∧
  (∀ (h : Hdr) (l : LinkId) (pos : NumSel) (target : Option PosId) (payload : List Word) (s : State),
    let i := Instr.unitRelay h l.val pos payload
    s.passes i = true → relayTarget pos = some target → 1 ≤ payload.length → payload.length ≤ 16 →
    ((s.link l).state ≠ .running → exec i s = .next (s.replied i .linkState)) ∧
    ((s.link l).state = .running → s.targetAbsent l target = true →
      exec i s = .next (s.replied i .absent [.o1 1, .o4 0xFFFFFFFF])) ∧
    ((s.link l).state = .running → s.targetAbsent l target = false →
      (4 ≤ (s.arbiter l).relays.length → exec i s = .next (s.replied i .queueFull)) ∧
      ((s.arbiter l).relays.length < 4 → exec i s = .next (((s.handed i).updArbiter l fun a =>
        { a with relays := a.relays ++ [⟨h.tag, target, payload⟩] }).updMp fun m => { m with owed := m.owed + 1 })))) ∧
  ∀ (l : LinkId) (x : Txn) (tag : BitVec 16) (s : State), s.mp.pinAsserted = false → (s.link l).state.carries = true →
    (s.arbiter l).txn = some x → x.requester = .relay tag → x.kind = .relay → x.spacing = none →
    let closed (r : Result) (fields : List Fld) (y : State) : State := (y.updArbiter l fun a => { a with txn := none }).updMp fun m =>
      { m with replies := m.replies ++ [{ kind := 0x99, tag := tag, result := r, fields := fields }], owed := m.owed - 1 }
    let ends (r : Result) (fields : List Fld) : Out := .next (closed r fields s)
    let list (ws : List Word) : List Fld := .o1 ws.length :: ws.map fun w => .o4 w.toNat
    (∀ (p : PosId) (ws : List Word) (w : Word), x.target = some p → x.window ≠ none → x.echoed = x.data.length + 1 →
      x.header = some (false, ws.length + 1) → x.replyData = ws.map .word →
      exec (.replyWordReceived l ⟨p.val + 1, (s.link l).generation, x.attempt, .data (.word w)⟩) s =
        ends .done (list (ws ++ [w]))) ∧
    (∀ p, x.target = some p → x.window ≠ none → x.echoed = x.data.length + 1 → x.header = none → x.replyData = [] →
      exec (.replyWordReceived l ⟨p.val + 1, (s.link l).generation, x.attempt, .header false 0⟩) s = ends .done [.o1 0]) ∧
    (∀ ws : List Word, x.target ≠ none → x.echoed = x.data.length → x.echoed < x.sent → x.header = some (false, ws.length) →
      x.replyData = ws.map .word → ∀ w, isRequestWord w = true → w = x.word l (s.link l).generation x.echoed →
      exec (.echoReceived l w) s = ends .done (list ws)) ∧
    (x.window ≠ none → x.attempt = 4 → exec (.replyWindowExpiry l) s = ends .absent [.o1 1, .o4 0xFFFFFFFF]) ∧
    (x.echoed < x.sent → x.attempt = 4 → ∀ w, isRequestWord w = true → w ≠ x.word l (s.link l).generation x.echoed →
      let r := report .chainEcho (.link l) .occurred (Config.ctrlWordImage w) s
      exec (.echoReceived l w) s = .next (settle (closed .absent [.o1 1, .o4 0xFFFFFFFF] r.1, r.2))) ∧
    (x.target = none → x.echoed = x.data.length → x.echoed < x.sent → ∀ w, isRequestWord w = true →
      w = x.word l (s.link l).generation x.echoed → exec (.echoReceived l w) s = ends .done [.o1 0])

/-! ### Load and spreading (spec/06) -/

/-- A busy window that ends counts when it was measured, busy at or above the threshold it began with, each sample composed with
the configured band set in force at it (the cuts are the choice of notes/assumptions/25.md), and the next is measured when the unit is
SERVING. The evaluation period expiry: occupancies and estimates of SERVING units with measured windows, counts at 0, zone loads,
the level counts at 0 after UPLINK_OVERLOAD of each radiating feed and DOWNLINK_CLIP of each unmuted SERVING unit have been judged by
them: a change is logged with the count where a NEW entry of it stands, and an activation also where the log has room for every
change of this expiry; the timer at P; zones are judged when no plan is pending, and a pending plan becomes the active one with
every zone NORMAL, blends go on, a unit on its plan home waits in no queue, and a SERVING unit off it without a blend is
queued for it or blends towards it with source PLAN (R97, R102, R111, R112, R113, R114, R115, R116, R117, R134, R136). -/
def Obligations.LoadIsMeasured : Prop :=
  ∀ s : State, s.mp.pinAsserted = false → (∀ (u : UnitId) (samples : List (List IQ)) (cuts : List Nat),
    let setOf := setAt ((s.unit u).configured.getD 0) (s.measure u).earlierSets cuts
    let power := windowPower (windowEnergy setOf samples) samples.length
    exec (.busyWindowEnd u ⟨samples, cuts⟩) s = .next (s.updMeasure u fun m =>
      { m with measured := if m.measuring = true then min 5000 (m.measured + 1) else m.measured
               busy := if m.measuring = true ∧ m.windowThreshold ≤ power then min 5000 (m.busy + 1) else m.busy
               measuring := s.serving u
               windowThreshold := (s.unit u).threshold
               earlierSets := [] })) ∧
    (s.lm.timer ≠ none → ∃ t, exec .evaluationPeriodExpiry s = .next t ∧
    t.lm.timer = some s.lm.period ∧ t.lm.period = s.lm.period ∧ t.lm.shift = s.lm.shift ∧
    (∀ u, let m := s.measure u
      let occ := 1000 * m.busy / m.measured
      t.measure u = if s.serving u = true ∧ 0 < m.measured
        then { m with measured := 0, busy := 0, occupancy := some occ, estimate := smooth m.estimate occ s.lm.shift }
        else { m with measured := 0, busy := 0 }) ∧
    (∀ f, (t.combiner f).saturations = 0) ∧ (∀ u, (t.mixer u).clips = 0) ∧
    (let judged (view : Bool) (n : Nat) : Bool := if view then !(n < s.le.limit / 4 : Bool) else (s.le.limit < n : Bool)
      let changes : Nat :=
        ((indices 32).filter fun f => s.radiates f &&
          judged (s.combiner f).overload (s.combiner f).saturations != (s.combiner f).overload).length +
        ((indices 48).filter fun u => s.serving u && (s.unit u).mutes.isEmpty &&
          judged (s.mixer u).clip (s.mixer u).clips != (s.mixer u).clip).length
      let logged (k : FaultKind) (src : Source) (now : Bool) (n : Nat) : Prop :=
        LogLaw s → (∃ e ∈ s.fu.log, e.kind = k ∧ e.source = src ∧ e.acked = false) ∨ (now = true ∧ s.fu.log.length + changes ≤ 32) →
          ∃ x ∈ t.fu.log, x.kind = k ∧ x.source = src ∧ x.active = now ∧ x.detail = BitVec.ofNat 32 n
      (∀ f, let c := s.combiner f
        (s.radiates f = true → (t.combiner f).overload = judged c.overload c.saturations ∧
          (judged c.overload c.saturations ≠ c.overload →
            logged .uplinkOverload (.feed f) (judged c.overload c.saturations) c.saturations)) ∧
        ((s.feed f).state = .enabled → s.radiates f = false → (t.combiner f).overload = c.overload)) ∧
      ∀ u, s.serving u = true → let m := s.mixer u
        ((s.unit u).mutes.isEmpty = true → (t.mixer u).clip = judged m.clip m.clips ∧
          (judged m.clip m.clips ≠ m.clip → logged .downlinkClip (.unit u) (judged m.clip m.clips) m.clips)) ∧
        ((s.unit u).mutes.isEmpty = false → (t.mixer u).clip = m.clip)) ∧
    (s.ps.pending = none → t.ps = s.ps ∧ ∀ z, t.load z =
      let r := { s.load z with load := s.expireUnits.zoneLoad z }
      if (s.zone z).defined = true then r.judge (s.marks z) else r) ∧
    (∀ n, s.ps.pending = some n → t.ps = { s.ps with active := n, pending := none } ∧
      (∀ z, t.load z = { load := s.expireUnits.zoneLoad z, temp := .normal, hotDwell := 0, coolDwell := 0 }) ∧
      t.me.homes = s.me.homes ∧ (∀ u b, s.blend u = some b → t.blend u = some b ∧ t.isQueued u = false) ∧
      ∀ u, s.blend u = none → let plan := Vector.get (s.bank n).homes u
        (s.home u = plan → t.blend u = none ∧ t.isQueued u = false) ∧
        (s.home u ≠ plan → s.serving u = true → s.validate (s.bank n) = none →
          (∃ e ∈ t.me.queue, e.unit = u ∧ e.origin = s.home u ∧ e.target = plan ∧ e.source = .plan) ∨
          ∃ b, t.blend u = some b ∧ b.target = plan ∧ b.p = 0 ∧ b.reverse = false ∧ b.source = .plan)) ∧
    t.rt = s.rt ∧ t.lc = s.lc ∧ t.tu.ops = s.tu.ops ∧ t.tu.bands = s.tu.bands ∧ t.tu.monitors = s.tu.monitors)

/-- The arithmetic of the load. A sample's energy is I² + Q² of the saturated sum of the streams of the band set in force at
it, the set of its place among those the window has had (R111, R112; the places of the changes, the cuts, are the model's choice,
notes/assumptions/25.md); a window's is the sum, and its power 100 × log10 of the mean over
2^30, truncated toward zero, at least −999 (R111). The estimate moves by floor((occ − estimate + 2^(k−1)) / 2^k), the
floor toward minus infinity (R114). A defined zone's load is the sum of the estimates of its SERVING home members, another's 0
(R115); and its temperature and dwells follow the table of R116. -/
def Obligations.LoadArithmetic : Prop :=
  (∀ (set : BitVec 8) (xs : List IQ),
    let sum (x : IQ → BitVec 16) : Int :=
      (((List.range 8).filter set.getLsbD).map fun b => (x (sampleAt xs b)).toInt).sum
    let c (x : IQ → BitVec 16) : Int := max (-32768) (min 32767 (sum x))
    sampleEnergy set xs = (c IQ.i * c IQ.i + c IQ.q * c IQ.q).toNat) ∧
  (∀ (current : BitVec 8) (earlier : List (BitVec 8)) (cuts : List Nat) (j : Nat), earlier.length = cuts.length →
    ((∀ c ∈ cuts, c ≤ j) → setAt current earlier cuts j = current) ∧
    ∀ n, (∀ m, m < n → cuts.getD m 0 ≤ j) → j < cuts.getD n 0 →
      some (setAt current earlier cuts j) = earlier[n]?) ∧
  (∀ (setOf : Nat → BitVec 8) (samples : List (List IQ)),
    windowEnergy setOf samples = ((indices samples.length).map fun j => sampleEnergy (setOf j.val) samples[j]).sum ∧
    windowEnergy setOf samples ≤ samples.length * 2 ^ 31) ∧
  (∀ count, windowPower 0 count = -999) ∧
  (∀ energy count : Nat, 0 < energy → energy ≤ count * 2 ^ 31 →
    let full := count * 2 ^ 30
    let p := windowPower energy count
    (full ≤ energy → 0 ≤ p ∧ p ≤ 30 ∧ 10 ^ p.toNat * full ^ 100 ≤ energy ^ 100 ∧
      energy ^ 100 < 10 ^ (p.toNat + 1) * full ^ 100) ∧
    (energy < full → -999 ≤ p ∧ p ≤ 0 ∧ 10 ^ (-p).toNat * energy ^ 100 ≤ full ^ 100 ∧
      (-999 < p → full ^ 100 < 10 ^ ((-p).toNat + 1) * energy ^ 100))) ∧
  (∀ estimate occ : Nat, smooth estimate occ 0 = occ ∧ ∀ k : Nat,
    let d := (smooth estimate occ (k + 1) : Int) - estimate
    2 ^ (k + 1) * d ≤ (occ : Int) - estimate + 2 ^ k ∧ (occ : Int) - estimate + 2 ^ k < 2 ^ (k + 1) * (d + 1)) ∧
  (∀ (s : State) (z : ZoneId), s.zoneLoad z = if (s.zone z).defined = true
    then (((indices 48).filter fun u => s.home u = some z ∧ s.serving u = true).map s.estimate).sum else 0) ∧
  ∀ (r : LoadRec) (m : Marks), r.judge m =
    match r.temp with
    | .normal =>
      if m.high ≤ r.load then (if r.hotDwell + 1 < m.dwell then ⟨r.load, .normal, r.hotDwell + 1, 0⟩ else ⟨r.load, .hot, 0, 0⟩)
      else if r.load ≤ m.low then
        (if r.coolDwell + 1 < m.dwell then ⟨r.load, .normal, 0, r.coolDwell + 1⟩ else ⟨r.load, .cool, 0, 0⟩)
      else ⟨r.load, .normal, 0, 0⟩
    | .hot => if (r.load : Int) ≤ m.high - m.hyst then { r with temp := .normal } else r
    | .cool => if m.low + m.hyst ≤ r.load then { r with temp := .normal } else r

/-- A round with the trigger HOT takes the zones named to it, one with the trigger TIMER needs a HOT zone; either records an outcome
for each HOT zone in zone order, starts the balance timer again, and changes nothing else but migrations (R120, R121, R127). A zone is
skipped HELD, AUTO_OFF, ORIGIN_BUSY or SINGLE by the first that holds (R121). Otherwise its candidates, SERVING home members neither
queued nor blending, are tried by descending estimate and then index: the first with a target moves, and NO_TARGET counts
them all, with the last one's last prediction (R122, R127), the model's noise feed where both its tests fail
(notes/assumptions/58.md). A target is an eligible COOL zone, not held, auto on, with room and
below H with the candidate in it, counting the round's moves so far, that passes the prediction (R123, R124); the one with the lowest
load is taken, the lowest number where equal (R125). Entries queued are those of before, or the round's moves. A unit MOVED is afterwards
queued with source AUTO, or, with fewer than C blends in flight before, blending AUTO to its target from p = 0, or dropped by its
judgment with a MOVE notice, NOISE for a defined target (R150, R151, R153, R163; the notice's octets are those of
notes/assumptions/22.md and 50.md); the first MOVED starts so where the queue was empty. -/
def Obligations.SpreadRounds : Prop :=
  ∀ s : State, s.mp.pinAsserted = false → s.se.working = true →
    let candidate (z : ZoneId) (u : UnitId) : Prop :=
      s.home u = some z ∧ s.blend u = none ∧ s.serving u = true ∧ s.isQueued u = false
    let before (u v : UnitId) : Prop := s.estimate v < s.estimate u ∨ (s.estimate u = s.estimate v ∧ u < v)
    let moved (pre : List (ZoneId × RoundOutcome)) : RoundMoves :=
      pre.filterMap fun e => match e.2 with | .moved u y => some (y, s.estimate u) | _ => none
    let weight (ms : RoundMoves) (y : ZoneId) : Nat := (s.load y).load + ((ms.filter (·.1 = y)).map (·.2)).sum
    let isOpen (ms : RoundMoves) (u : UnitId) (y : ZoneId) : Bool :=
      (s.unit u).eligible.getLsbD y.val && (s.load y).temp = .cool && s.holdOf y = none && (s.marks y).auto &&
        s.liveCount y + (ms.filter (·.1 = y)).length < 16 && weight ms y + s.estimate u < (s.marks y).high
    let target (ms : RoundMoves) (u : UnitId) (y : ZoneId) : Prop := isOpen ms u y = true ∧ s.admission u y = .pass
    let searched (ms : RoundMoves) (z : ZoneId) (o : RoundOutcome) : Prop :=
      (∃ u y, o = .moved u y ∧ candidate z u ∧ target ms u y ∧
        (∀ x, target ms u x → weight ms y < weight ms x ∨ (weight ms y = weight ms x ∧ y ≤ x)) ∧
        ∀ v, candidate z v → before v u → ∀ x, ¬ target ms v x) ∨
      ∃ last, o = .noTarget ((indices 48).filter fun u => decide (candidate z u)).length last ∧
        (∀ v x, candidate z v → ¬ target ms v x) ∧
        ((∀ v, ¬ candidate z v) → last = none) ∧
        ∀ v, candidate z v → (∀ w, candidate z w → w = v ∨ before w v) →
          last = ((indices 24).filter (isOpen ms v)).getLast?.map (s.admission v)
    let judged (ms : RoundMoves) (z : ZoneId) (o : RoundOutcome) : Prop :=
      if s.holdOf z ≠ none then o = .held
      else if (s.marks z).auto = false then o = .autoOff
      else if 0 < s.autoFrom z then o = .originBusy
      else if ((indices 48).filter fun u => s.home u = some z ∧ s.blend u = none).length ≤ 1 then o = .single
      else searched ms z o
    let started (y : ZoneId) : Blend :=
      { target := some y, p := 0, depth := s.me.params.depth, step := s.me.params.step, reverse := false, source := .auto,
        timer := s.me.params.step }
    let dropped (z : ZoneId) (u : UnitId) (y : ZoneId) (detail : Nat) : List Fld :=
      [.o1 u.val, .o1 (linkOf u).val, .o1 ((posOf u).val + 1), .o1 4, .o1 1, .o1 (if (s.zone y).defined then 4 else 1), .o1 0,
       .o1 (zoneNum z), .o1 (zoneNum y), .o2 0, .o2 0, .o4 detail, .o4 s.fu.clock.toNat]
    let ran (hot : Bool) (named : List ZoneId) (t : State) : Prop :=
      ∃ outcomes, outcomes.map Prod.fst = s.hotZones ∧
        (∀ pre z o post, outcomes = pre ++ (z, o) :: post → judged (moved pre) z o) ∧
        (∀ e ∈ t.me.queue, (∃ q ∈ s.me.queue, q.unit = e.unit) ∨
          ∃ z y, (z, .moved e.unit y) ∈ outcomes ∧ e.origin = some z ∧ e.target = some y ∧ e.source = .auto) ∧
        (∀ z u y, (z, .moved u y) ∈ outcomes →
          (∃ e ∈ t.me.queue, e.unit = u ∧ e.origin = some z ∧ e.target = some y ∧ e.source = .auto ∧ e.force = false) ∨
          (s.inFlight < s.me.params.conc ∧ (t.blend u = some (started y) ∨ (t.blend u = none ∧ t.isQueued u = false ∧
            (16 ≤ t.mp.notices.length ∨ ∃ seq detail, (⟨.move, seq, dropped z u y detail⟩ : Notice) ∈ t.mp.notices))))) ∧
        (∀ pre z u y post, outcomes = pre ++ (z, .moved u y) :: post → moved pre = [] → s.me.queue = [] →
          s.inFlight < s.me.params.conc → (s.zone y).defined = true → t.blend u = some (started y)) ∧
        t.se = { working := true, timer := some (1000 * s.me.params.balance), named := named,
                 round := some ⟨s.fu.clock, hot, outcomes⟩ } ∧
        ({ t with se := s.se } : State).calm = s.calm
    (s.se.named ≠ [] → ∃ t, exec .hotZoneRound s = .next t ∧ ran true [] t) ∧
    (s.se.timer ≠ none → s.hotZones ≠ [] → ∃ t, exec .balanceTimerExpiry s = .next t ∧ ran false s.se.named t) ∧
    (s.se.timer ≠ none → s.hotZones = [] → exec .balanceTimerExpiry s =
      .next (s.updSe fun e => { e with timer := some (1000 * s.me.params.balance) }))

/-! ### Plans and holds (spec/07) -/

/-- PLAN_WRITE writes the parts it carries into a bank that is neither active nor pending when every zone's marks keep their
relation, and refuses PLAN_IN_USE for another bank and BAD_VALUE with the zone otherwise; a form octet beyond its forms is refused
BAD_VALUE behind PLAN_IN_USE (R128, R130), the octet of an optional field among these by the model's choice
(notes/assumptions/51.md). -/
def Obligations.PlanWrites : Prop :=
  ∀ (h : Hdr) (n : BankId) (mode : Option PlanMode) (homes : Option (List (UnitRef × Nat))) (marks : Option (List MarkEntry))
    (s : State),
    let i := Instr.planWrite h n.val (mode.map some) homes marks
    let inUse := s.ps.active = n ∨ s.ps.pending = some n
    (s.passes i = true → inUse → exec i s = .next (s.replied i .planInUse)) ∧
    (s.canTake = true → h.lengthOk = true → s.admits h .venue = true → h.formOk = false →
      exec i s = .next (s.replied i (if inUse then .planInUse else .badValue))) ∧
    ∀ (hs : Option (List (UnitId × Home))) (ms : Option (List (ZoneId × Marks))), s.passes i = true → ¬ inUse →
      partOf homesOf homes = some hs → partOf marksOf marks = some ms → let b := (s.bank n).write mode hs ms
      ((∀ z, (Vector.get b.marks z).ordered = true) → exec i s = .next ((s.replied i .done).updBank n fun _ => b)) ∧
      ∀ z, (Vector.get b.marks z).ordered = false → (∀ y, y < z → (Vector.get b.marks y).ordered = true) →
        exec i s = .next (s.replied i .badValue [.o1 (zoneNum z)])

/-- ZONE_HOLD takes a defined zone that is free: no AUTO entry that touches it stays queued, and a FORWARD AUTO blend past p = 0
that touches it turns REVERSE, one at p = 0 ending at once; ZONE_RELEASE frees it for its owner and for the venue, and nobody else
(R140, R141, R142, R159). The reply's octets, FEh for no previous owner and the issuer's own number for self, are those of
notes/assumptions/22.md. -/
def Obligations.ZoneHolds : Prop :=
  ∀ (h : Hdr) (z : ZoneId) (who : Issuer) (s : State), whoOf h = some who → (s.zone z).defined = true →
    let hold := Instr.zoneHold h (zoneNum z)
    let release := Instr.zoneRelease h (zoneNum z)
    (s.passes hold = true → s.holdOf z = none → MigrationLaw s → ∃ t, exec hold s = .next t ∧
      t.calm = ((s.replied hold .done [.o1 0xFE]).setHold z (some who)).calm ∧
      (∀ e ∈ t.me.queue, e.source = .auto → touches z e.origin e.target = false) ∧
      ∀ u b, s.blend u = some b → b.source = .auto → b.reverse = false → touches z (s.home u) b.target = true →
        t.blend u = if 0 < b.p then some { b with reverse := true } else none) ∧
    (s.passes hold = true → ∀ owner, s.holdOf z = some owner → exec hold s =
      .next (s.replied hold (if owner = who then .done else .held) [.o1 (issuerNum owner)])) ∧
    (s.passes release = true → ∀ owner, s.holdOf z = some owner →
      (who = none ∨ owner = who → exec release s = .next ((s.replied release .done).setHold z none)) ∧
      (who ≠ none → owner ≠ who → exec release s = .next (s.replied release .notPermitted [.o1 (issuerNum owner)])))

/-! ### Migrations (spec/08) -/

/-- MOVE of a SERVING unit in SEED mode, into a zone with room and with nothing queued and fewer than C blends, starts a blend at
p = 0 with D and T at once; force passes holds and eligibility over (R148, R150, R151, R153). MOVE_ABORT removes a queued entry,
turns a FORWARD blend past p = 0 REVERSE at the p it has, and answers NONE for a unit neither queued nor blending
(R149, R159, R161). That the place in the queue is one octet of the MOVE reply is the model's choice (notes/assumptions/22.md). -/
def Obligations.MoveAndAbort : Prop :=
  (∀ (h : Hdr) (u : UnitId) (z : ZoneId) (force : Bool) (s : State),
    let i := Instr.move h (.index u.val) (zoneNum z) (some force)
    s.passes i = true → s.activeBank.mode = .seed → (s.zone z).defined = true → s.me.queue = [] → s.blend u = none →
    s.home u ≠ some z → s.serving u = true → s.liveCount z < 16 → s.inFlight < s.me.params.conc →
    force = true ∨ (s.isHeld (s.home u) = false ∧ s.holdOf z = none ∧ s.eligibleFor u z = true) →
    ∃ t, exec i s = .next t ∧
      t.me =
        { s.me with
          retry := none
          blends := s.me.blends.upd u fun _ => some
            { target := some z, p := 0, depth := s.me.params.depth, step := s.me.params.step, reverse := false,
              source := .venue, timer := s.me.params.step } } ∧
      t.calm = (s.replied i .done [.o1 1]).calm) ∧
  ∀ (h : Hdr) (u : UnitId) (s : State),
    let i := Instr.moveAbort h (.index u.val)
    s.passes i = true →
    (s.isQueued u = true → ∃ t, exec i s = .next t ∧ t.me.queue = s.me.queue.filter (fun e => e.unit ≠ u) ∧
      t.me.blends = s.me.blends ∧ t.calm = (s.replied i .done).calm) ∧
    (s.isQueued u = false → ∀ b, s.blend u = some b → b.reverse = false → 0 < b.p → ∃ t, exec i s = .next t ∧
      t.still = ((s.replied i .done).setBlend u (some { b with reverse := true })).still) ∧
    (s.isQueued u = false → s.blend u = none → exec i s = .next (s.replied i .none))

/-- The steps of a blend: p rises by 1 in FORWARD and falls by 1 in REVERSE, the timer at T; at D the unit settles in its target,
and at 0 it reverts, with its home unchanged (R156, R157, R158). -/
def Obligations.BlendSteps : Prop :=
  ∀ (u : UnitId) (b : Blend) (s : State), s.mp.pinAsserted = false → s.blend u = some b →
    let stepped (p : Nat) : State := s.setBlend u (some { b with p := p, timer := b.step })
    (b.reverse = false → b.p + 1 < b.depth → ∃ t, exec (.blendStepExpiry u) s = .next t ∧
      t.still = (stepped (b.p + 1)).still) ∧
    (b.reverse = true → 1 < b.p → ∃ t, exec (.blendStepExpiry u) s = .next t ∧ t.still = (stepped (b.p - 1)).still) ∧
    (b.reverse = false → b.depth ≤ b.p + 1 → ∃ t, exec (.blendStepExpiry u) s = .next t ∧ t.home u = b.target ∧
      t.calm = (s.setHome u b.target).calm ∧
      (s.me.queue = [] → s.activeBank.mode = .seed → t.still = ((s.setHome u b.target).setBlend u none).still)) ∧
    (b.reverse = true → b.p ≤ 1 → ∃ t, exec (.blendStepExpiry u) s = .next t ∧ t.calm = s.calm ∧
      (s.me.queue = [] → t.still = (s.setBlend u none).still))

/-- SPREAD_SET writes the parameters it carries, refuses BUSY a C below the blends in flight, and forms the working flag again;
the retry timer's expiry takes a start pass, which defers an only entry into a full zone and starts it when there is room
(R119, R150, R151, R152, R161, R164). That a SPREAD_SET without a field is accepted is the model's choice
(notes/assumptions/52.md). -/
def Obligations.SpreadSetAndRetry : Prop :=
  ∀ s : State,
    (∀ (h : Hdr) (auto : Option Bool) (conc depth step balance : Option Nat),
      let i := Instr.spreadSet h (auto.map some) conc depth step balance
      s.passes i = true → within 1 8 conc = true → within 4 30 depth = true → within 20 2000 step = true →
      within 2 120 balance = true →
      ((∃ c, conc = some c ∧ c < s.inFlight) → exec i s = .next (s.replied i .busy [.o1 s.inFlight])) ∧
      ((∀ c, conc = some c → s.inFlight ≤ c) → ∃ t, exec i s = .next t ∧
        t.me.params = { auto := auto.getD s.me.params.auto, conc := conc.getD s.me.params.conc,
                        depth := depth.getD s.me.params.depth, step := step.getD s.me.params.step,
                        balance := balance.getD s.me.params.balance } ∧
        t.se.working = (auto.getD s.me.params.auto && s.activeBank.mode = .seed) ∧ t.me.homes = s.me.homes ∧
        ({ t with me := s.me, se := s.se } : State).still = (s.replied i .done).still)) ∧
    (s.mp.pinAsserted = false → s.me.retry ≠ none →
      (s.me.queue = [] → exec .retryTimerExpiry s = .next (s.updMe fun m => { m with retry := none })) ∧
      ∀ (e : QueueEntry) (z : ZoneId), s.me.queue = [e] → e.target = some z → e.source ≠ .auto →
        (e.source = .venue → e.force = false → s.isHeld e.origin = false ∧ s.holdOf z = none) →
        s.serving e.unit = true → (s.zone z).defined = true → s.inFlight < s.me.params.conc →
        (16 ≤ s.liveCount z → e.deferrals < 3 → ∃ t, exec .retryTimerExpiry s = .next t ∧
          t.still = (s.updMe fun m => { m with
            queue := [{ e with deferrals := e.deferrals + 1 }], retry := some (m.params.depth * m.params.step) }).still) ∧
        (s.liveCount z < 16 → ∃ t, exec .retryTimerExpiry s = .next t ∧ t.me.queue = [] ∧
          t.blend e.unit = some { target := some z, p := 0, depth := s.me.params.depth, step := s.me.params.step,
                                  reverse := false, source := e.source, timer := s.me.params.step } ∧ t.calm = s.calm))

/-! ### Faults (spec/09) -/

/-- FAULT_POLICY writes the flags of a kind, and refuses mute or latch for a kind that carries notify alone; "defaults" restores
the default flags. Where the mute flag goes off, no action record of the kind is left (R167, R169, R170). -/
def Obligations.FaultPolicies : Prop :=
  ∀ (h : Hdr) (k : FaultKind) (notify mute latch : Bool) (s : State),
    let flags := Instr.faultPolicy h (.one k.code) (some notify) (some mute) (some latch)
    let defaults := Instr.faultPolicyDefaults h (.one k.code)
    let allDefaults := Instr.faultPolicyDefaults h .all
    let written (i : Instr) (p : Tbl Policy 21) : Prop := ∃ t, exec i s = .next t ∧
      t.still = ((s.replied i .done).updFu fun fu => { fu with policy := p }).still ∧
      ((Vector.get p k.idx).mute = false → ∀ a ∈ t.fu.actions, a.kind ≠ k)
    (s.passes flags = true → k.notifyOnly = false ∨ (mute = false ∧ latch = false) →
      written flags (s.fu.policy.upd k.idx fun _ => ⟨notify, mute, latch⟩)) ∧
    (s.passes flags = true → k.notifyOnly = true → mute = true ∨ latch = true →
      exec flags s = .next (s.replied flags .badValue [.o1 k.code])) ∧
    (s.passes defaults = true → written defaults (s.fu.policy.upd k.idx fun _ => Vector.get defaultPolicies k.idx)) ∧
    (s.passes allDefaults = true → written allDefaults defaultPolicies)

/-- FAULT_ACK marks one entry or all of them ACKED and nothing else, answers NONE where no entry exists and BAD_VALUE for a kind
outside 1 to 21 or a source outside its class; an inactive entry marked so may be evicted, unless it holds a latch or an action
record. FAULT_CLEAR removes an inactive entry, with the log-overflow flag, and keeps an active one at 0 occurrences and
NEW; its latch is released, a removed one's OCCURRENCE record is removed, and FAULT_LATCH, FAULT_ACTION and LINK_ACTION stand as
the log and the records that are left say, the work that this sets in motion done; an entry without latch and without OCCURRENCE
record sets none in motion. FAULT_CLEAR of "all" does so to every entry, in one, and answers how many it removed and kept (R173, R175, R176, R178, R179). The octets REMOVED 00h and KEPT 01h are those of
notes/assumptions/22.md. -/
def Obligations.FaultAckAndClear : Prop :=
  ∀ (h : Hdr) (k : FaultKind) (src : Source) (s : State), src.cls = k.cls →
    let name := FaultName.one k.code src.num
    let mark (p : LogEntry → Bool) (l : List LogEntry) : List LogEntry := l.map fun e => if p e then { e with acked := true } else e
    (s.passes (.faultAck h .all) = true → exec (.faultAck h .all) s =
      .next ((s.replied (.faultAck h .all) .done [.o1 (s.fu.log.filter fun e => !e.acked).length]).updFu fun fu =>
        { fu with log := mark (fun _ => true) fu.log })) ∧
    (s.passes (.faultAck h name) = true → s.fu.find k src ≠ none → exec (.faultAck h name) s =
      .next ((s.replied (.faultAck h name) .done).updFu fun fu => { fu with log := mark (·.names k src) fu.log })) ∧
    (s.passes (.faultAck h name) = true → s.fu.find k src = none →
      exec (.faultAck h name) s = .next (s.replied (.faultAck h name) .none)) ∧
    (∀ kind source, kind < 1 ∨ 21 < kind ∨ (kind = k.code ∧ ∀ x : Source, x.cls = k.cls → x.num ≠ source) →
      s.passes (.faultAck h (.one kind source)) = true →
      exec (.faultAck h (.one kind source)) s = .next (s.replied (.faultAck h (.one kind source)) .badValue)) ∧
    (∀ (fu : FaultUnit) (e : LogEntry), e.active = false →
      fu.evictable { e with acked := true } = (!e.latch && !fu.actions.any fun a => a.kind = e.kind && a.source = e.source)) ∧
    (LogLaw s → LatchLaw s → ActionLaw s → ∀ e, s.passes (.faultClear h name) = true → s.fu.find k src = some e →
      let cleared := (s.handed (.faultClear h name)).updFu fun fu =>
        if e.active then
          { fu with log := fu.log.map fun x =>
              if x.names k src then { x with occurrences := 0, acked := false, latch := false } else x }
        else
          { fu with log := fu.log.filter (fun x => !x.names k src), overflow := false,
                    actions := fu.actions.filter fun a => !(a.kind = k && a.source = src && a.occurrence) }
      ∃ work, exec (.faultClear h name) s =
        .next ((settle (cleared.remuted, work)).reply 0x2A h .done [.o1 (if e.active then 1 else 0)])) ∧
    (LogLaw s → LatchLaw s → ActionLaw s → s.passes (.faultClear h .all) = true →
      let kept := s.fu.log.filter (·.active)
      let cleared := (s.handed (.faultClear h .all)).updFu fun fu =>
        { fu with log := kept.map fun e => { e with occurrences := 0, acked := false, latch := false }
                  overflow := fu.overflow && fu.log.all (·.active)
                  actions := fu.actions.filter fun a => !(a.occurrence && fu.log.any fun e => !e.active && e.names a.kind a.source) }
      ∃ work, exec (.faultClear h .all) s =
        .next ((settle (cleared.remuted, work)).reply 0x2A h .done [.o1 (s.fu.log.length - kept.length), .o1 kept.length])) ∧
    ∀ e, s.passes (.faultClear h name) = true → s.fu.find k src = some e → e.latch = false →
      (∀ a ∈ s.fu.actions, a.kind = k → a.source = src → a.occurrence = false) →
      (e.active = false → exec (.faultClear h name) s =
        .next ((s.replied (.faultClear h name) .done [.o1 0]).updFu fun fu =>
          { fu with log := fu.log.filter fun x => !x.names k src, overflow := false })) ∧
      (e.active = true → exec (.faultClear h name) s =
        .next ((s.replied (.faultClear h name) .done [.o1 1]).updFu fun fu =>
          { fu with log := fu.log.map fun x =>
              if x.names k src then { x with occurrences := 0, acked := false, latch := false } else x }))

/-- A fault report, whole (R168). It is logged: a raised entry of its kind and source counts one more, up to 65535, with the clock and
the detail, NEW again, and the rest of the log stands as it was; without one, a new entry joins the end; a full log with no entry that may be evicted is left as it is, with the log-overflow flag set, and otherwise
the oldest goes and the new entry joins the end, the flag clear; INACTIVE writes its entry's flag, time and detail, and creates none (R172, R173, R174). Its mute: ACTIVE of a muting kind,
and a logged OCCURRED, have an action record from there on, INACTIVE ends the CONDITION record, and the reasons follow the records
(R175). Its latch: a logged report of a latching kind, not INACTIVE, latches its entry, and FAULT_LATCH follows (R176). Its notice carries
the fields of R177, whenever notify is on. Nothing else changes. An expired alignment timer, a noise window that changes LINK_NOISY, and
a test word that differs report so. That the log has one entry for a kind and source at most is the premise LogLaw; the octets of
the notice are those of notes/assumptions/22.md and 28.md. -/
def Obligations.ReportIsLogged : Prop :=
  (∀ (k : FaultKind) (src : Source) (ev : FaultEvent) (detail : Word) (fu : FaultUnit),
    (let again (e : LogEntry) : LogEntry :=
       if e.names k src then { e with occurrences := min 65535 (e.occurrences + 1), last := fu.clock, detail := detail, acked := false,
                                      active := (ev = .active : Bool) || e.active } else e
     (∃ e ∈ fu.log, e.names k src = true) → fu.logRaised k src ev detail = ({ fu with log := fu.log.map again }, true)) ∧
    ((∀ e ∈ fu.log, e.names k src = false) → fu.log.length < 32 →
      (fu.logRaised k src ev detail) = ({ fu with log := fu.log ++ [newEntry k src ev detail fu.clock] }, true)) ∧
    ((∀ e ∈ fu.log, e.names k src = false) → 32 ≤ fu.log.length → (∀ e ∈ fu.log, fu.evictable e = false) →
      fu.logRaised k src ev detail = ({ fu with overflow := true }, false)) ∧
    (∀ v, (∀ e ∈ fu.log, e.names k src = false) → 32 ≤ fu.log.length → v ∈ fu.log → fu.evictable v = true →
      ∃ x ∈ fu.log, fu.evictable x = true ∧ fu.age v ≤ fu.age x ∧ fu.logRaised k src ev detail =
        ({ fu with log := (fu.log.filter fun e => !e.names x.kind x.source) ++ [newEntry k src ev detail fu.clock],
                   overflow := false }, true)) ∧
    let ended (e : LogEntry) : LogEntry :=
      if e.names k src then { e with active := false, last := fu.clock, detail := detail } else e
    fu.logInactive k src detail = ({ fu with log := fu.log.map ended }, fu.log.any (·.names k src))) ∧
  (∀ (k : FaultKind) (src : Source) (ev : FaultEvent) (detail : Word) (s : State), LogLaw s →
    let r := (report k src ev detail s).1
    let kept := if ev = .inactive then s.fu.logInactive k src detail else s.fu.logRaised k src ev detail
    let named (a : ActionRec) : Bool := a.kind = k && a.source = src
    let records (occurrence : Bool) : List ActionRec :=
      if s.fu.actions.any named then s.fu.actions else s.fu.actions ++ [⟨k, src, occurrence⟩]
    let entry := r.fu.log.find? (·.names k src)
    r.still = s.still ∧ r.fu.overflow = kept.1.overflow ∧
    r.fu.log = (if kept.2 = true ∧ ev ≠ .inactive ∧ (s.policy k).latch = true
      then kept.1.log.map fun e => if e.names k src then { e with latch := true } else e else kept.1.log) ∧
    r.fu.actions = (match ev with
      | .active => if (s.policy k).mute then records false else s.fu.actions
      | .inactive => s.fu.actions.filter fun a => !(named a && !a.occurrence)
      | .occurred => if (s.policy k).mute && kept.2 then records true else s.fu.actions) ∧
    (src.cls = k.cls → ActionLaw s → ActionLaw r) ∧ (LatchLaw s → LatchLaw r) ∧
    r.mp = if (s.policy k).notify = true
      then s.mp.post .fault
        [.o1 k.code, .o1 src.num, .o1 (match ev with | .active => 0 | .inactive => 1 | .occurred => 2), .o4 detail.toNat,
         .o1 (if kept.2 then 0 else 1), .o2 (if kept.2 then (entry.map (·.occurrences)).getD 0 else 0),
         .o1 (if kept.2 then r.fu.place k src else 0), .o1 (if r.fu.actions.any named then 0 else 1),
         .o1 (if entry.any (·.latch) then 0 else 1), .o4 s.fu.clock.toNat]
      else s.mp) ∧
  ∀ (l : LinkId) (s : State), s.mp.pinAsserted = false →
    let view (g : LinkView → LinkView) (s : State) : State := s.updLink l fun r => { r with view := g r.view }
    ((s.link l).alignTimer ≠ none → (s.link l).view.noAlign = false → exec (.alignmentTimerExpiry l) s = .next (settle
      (report .linkNoAlign (.link l) .active (BitVec.ofNat 32 (s.link l).generation)
        (view (fun v => { v with noAlign := true }) (s.updLink l fun r => { r with alignTimer := none }))))) ∧
    ((s.link l).noiseTimer ≠ none → ∀ b : Bool, (s.link l).view.noisy = !b →
      (if b then 16 < (s.link l).noise else (s.link l).noise ≤ 4) → exec (.noiseWindowExpiry l) s = .next (settle
        (report .linkNoisy (.link l) (if b then .active else .inactive) (BitVec.ofNat 32 (s.link l).noise)
          (view (fun v => { v with noisy := b })
            (s.updLink l fun r => { r with lastWindow := r.noise, noise := 0, noiseTimer := some 1000 }))))) ∧
    ∀ w : Word, (s.link l).state = .loopback → (s.link l).looped = true → w.toNat ≠ (s.link l).testCounter →
      exec (.loopbackTestWord l w) s = .next (settle (report .chainEcho (.link l) .occurred w (s.updLink l fun r =>
        { r with testCounter := (r.testCounter + 1) % 65536, loopErrors := min 65535 (r.loopErrors + 1) })))

/-! ### Requests that read -/

/-- STATUS returns the clock, the selections, the counts and the flags, and clears the bad-frame count and the notice-overflow flag;
IDENT returns part code, revision and line rate, and changes no state (R194, R195, R205). The octets, a flag that is set as 00h and an absent pending plan as FEh, are those of
notes/assumptions/22.md. -/
def Obligations.StatusAndIdent : Prop :=
  ∀ (h : Hdr) (s : State),
    (s.passes (.status h) = true → exec (.status h) s = .next ((s.replied (.status h) .done
      [.o4 s.fu.clock.toNat, .o1 s.ps.active.val, .o1 ((s.ps.pending.map Fin.val).getD 0xFE), .o1 s.inFlight,
       .o1 s.me.queue.length, .o1 (if s.fu.overflow then 0 else 1), .o1 (if s.mp.noticeOverflow then 0 else 1),
       .o2 s.mp.badFrames, .o1 (s.unitsIn .absent), .o1 (s.unitsIn .configuring), .o1 (s.unitsIn .serving),
       .o1 (s.unitsIn .failed)]).updMp fun m => { m with badFrames := 0, noticeOverflow := false })) ∧
    (s.passes (.ident h) = true →
      exec (.ident h) s = .next (s.replied (.ident h) .done [.o2 0x12D8, .o1 1, .o1 s.mp.rate.octet]))

/-- The reads answer with the record that their number or selector names, or every record, and change nothing; a route key, and a
kind and source, that names nothing is answered NONE (R19, R25, R33, R60, R89, R108, R127, R131, R165, R180). The layouts are the
model's choices: counted lists (notes/assumptions/41.md), widths, sets and flags (22.md, 44.md, 45.md, 46.md, 47.md), the source of a
fault (28.md), units and unit indices (50.md), and the place of the cause in a plan offender (56.md). So is the order of the action
records under the selector policy, oldest first (54.md). -/
def Obligations.RecordsAreRead : Prop :=
  ∀ (h : Hdr) (s : State),
    let gives (i : Instr) (r : Result) (fields : List Fld) : Prop :=
      s.passes i = true → exec i s = .next (s.replied i r fields)
    let answers (i : Instr) : List Fld → Prop := gives i .done
    let routes (p : Route → Bool) : List Fld := Fld.list s.routeFields (s.routes.filter fun e => p e.2.2)
    (∀ o : OpId, answers (.operatorRead h (.one (opNum o))) (.o1 1 :: s.operatorFields o)) ∧
    answers (.operatorRead h .all) (.o1 8 :: (indices 8).flatMap s.operatorFields) ∧
    answers (.bandRead h) ((indices 8).flatMap fun b => windowFields (s.band b)) ∧
    (∀ f : FeedId, answers (.feedRead h (.one f.val)) (.o1 1 :: s.feedFields f)) ∧
    answers (.feedRead h .all) (.o1 32 :: (indices 32).flatMap s.feedFields) ∧
    (∀ z : ZoneId, answers (.zoneRead h (.one (zoneNum z))) (.o1 1 :: s.zoneFields z)) ∧
    answers (.zoneRead h .all) (.o1 24 :: (indices 24).flatMap s.zoneFields) ∧
    (∀ l : LinkId, answers (.linkRead h (.one l.val)) (.o1 1 :: s.linkFields l)) ∧
    answers (.linkRead h .all) (.o1 12 :: (indices 12).flatMap s.linkFields) ∧
    (∀ n : BankId, answers (.planRead h (.one n.val)) (.o1 1 :: s.bankFields n)) ∧
    answers (.planRead h .all) (.o1 4 :: (indices 4).flatMap s.bankFields) ∧
    (∀ f : FeedId, gives (.routeRead h (.feed f.val)) .done (routes fun r => r.feed = f)) ∧
    (∀ z : ZoneId, gives (.routeRead h (.zone (zoneNum z))) .done (routes fun r => r.zone = z)) ∧
    (∀ (f : FeedId) (z : ZoneId), gives (.routeRead h (.key f.val (zoneNum z)))
      (if s.routes.any (fun e => e.2.2.hasKey f z) then .done else .none) (routes fun r => r.hasKey f z)) ∧
    gives (.routeRead h .all) .done (routes fun _ => true) ∧
    (∀ i : Fin 64, gives (.routeRead h (.set i.val)) .done
      (s.wayFields i 0 (s.routeSet i).way0 ++ s.wayFields i 1 (s.routeSet i).way1)) ∧
    (∀ u : UnitId, gives (.unitRead h (.unit (.index u.val))) .done (.o1 1 :: s.unitFields u)) ∧
    (∀ l : LinkId, gives (.unitRead h (.link l.val)) .done (.o1 4 :: (unitsOf l).flatMap s.unitFields)) ∧
    gives (.unitRead h .all) .done (.o1 48 :: (indices 48).flatMap s.unitFields) ∧
    (∀ f : FeedId, gives (.levelRead h (.feed f.val)) .done ((.o1 1 :: s.combinerFields f) ++ [.o2 s.le.limit])) ∧
    (∀ u : UnitId, gives (.levelRead h (.unit (.index u.val))) .done ((.o1 1 :: s.mixerFields u) ++ [.o2 s.le.limit])) ∧
    gives (.levelRead h .feeds) .done ((.o1 32 :: (indices 32).flatMap s.combinerFields) ++ [.o2 s.le.limit]) ∧
    gives (.levelRead h .units) .done ((.o1 48 :: (indices 48).flatMap s.mixerFields) ++ [.o2 s.le.limit]) ∧
    (∀ u : UnitId, gives (.loadRead h (.unit (.index u.val))) .done ((.o1 1 :: s.measureFields u) ++ s.periodFields)) ∧
    (∀ z : ZoneId, gives (.loadRead h (.zone (zoneNum z))) .done ((.o1 1 :: s.loadFields z) ++ s.periodFields)) ∧
    gives (.loadRead h .units) .done ((.o1 48 :: (indices 48).flatMap s.measureFields) ++ s.periodFields) ∧
    gives (.loadRead h .zones) .done ((.o1 24 :: (indices 24).flatMap s.loadFields) ++ s.periodFields) ∧
    gives (.loadRead h .spread) .done (s.spreadFields ++ s.periodFields) ∧
    gives (.queueRead h) .done (s.me.params.fields ++ [.o1 s.inFlight, .o1 s.me.queue.length] ++
      Fld.opt (s.me.retry.map Fld.o2) ++ Fld.list QueueEntry.fields s.me.queue ++
      Fld.list (fun ub => ub.2.fields (s.home ub.1) ub.1) s.blending) ∧
    gives (.faultRead h .all) .done (s.logFields ++ Fld.list s.entryFields s.fu.log) ∧
    (∀ k : FaultKind, gives (.faultRead h (.kind k.code)) .done
      (s.logFields ++ Fld.list s.entryFields (s.fu.log.filter (·.kind = k)))) ∧
    (∀ src : Source, gives (.faultRead h (.source (some src.cls) src.num)) .done
      (s.logFields ++ Fld.list s.entryFields (s.fu.log.filter (·.source = src)))) ∧
    gives (.faultRead h .policy) .done
      (s.logFields ++ s.fu.policy.toList.flatMap Policy.fields ++ Fld.list ActionRec.fields s.fu.actions) ∧
    ∀ (k : FaultKind) (src : Source), src.cls = k.cls → gives (.faultRead h (.kindSource k.code src.num))
      (if (s.fu.find k src).isSome then .done else .none)
      (s.logFields ++ Fld.list s.entryFields (s.fu.log.filter (·.names k src)))
end

