-- ==== Sys2Proof/Laws/State.lean ====
section
/-! SUPPORT. What each update of the state leaves, field by field, and what it writes. -/

namespace Sys2Proof

/-! ### Tables -/

theorem Tbl.get_eq {α : Type} {n : Nat} (t : Tbl α n) (i : Fin n) : Vector.get t i = t[i.val] := rfl

@[simp] theorem Tbl.get_upd_self {α : Type} {n : Nat} (t : Tbl α n) (i : Fin n) (f : α → α) :
    Vector.get (t.upd i f) i = f (Vector.get t i) := by
  simp [Tbl.get_eq, Tbl.upd]

theorem Tbl.get_upd_ne {α : Type} {n : Nat} (t : Tbl α n) {i j : Fin n} (f : α → α) (h : j ≠ i) :
    Vector.get (t.upd i f) j = Vector.get t j := by
  have : i.val ≠ j.val := fun e => h (Fin.ext e.symm)
  simp [Tbl.get_eq, Tbl.upd, this]
theorem Tbl.get_upd {α : Type} {n : Nat} (t : Tbl α n) (i j : Fin n) (f : α → α) :
    Vector.get (t.upd i f) j = if j = i then f (Vector.get t i) else Vector.get t j := by
  by_cases h : j = i
  · subst h; simp
  · simp [h, Tbl.get_upd_ne t f h]

@[simp] theorem Tbl.get_make {α : Type} {n : Nat} (f : Fin n → α) (i : Fin n) : Vector.get (Tbl.make f) i = f i := by
  simp [Tbl.get_eq, Tbl.make]

@[simp] theorem Tbl.get_map {α β : Type} {n : Nat} (f : α → β) (t : Tbl α n) (i : Fin n) :
    Vector.get (t.map f) i = f (Vector.get t i) := by
  simp [Tbl.get_eq]

/-- Two tables with the same records are the same. -/
theorem Tbl.ext {α : Type} {n : Nat} {s t : Tbl α n} (h : ∀ i, Vector.get s i = Vector.get t i) : s = t := by
  apply Vector.ext
  intro i hi
  exact h ⟨i, hi⟩

/-- A view of every record that an update keeps, the table of the views keeps. -/
theorem Tbl.map_upd {α β : Type} {n : Nat} (t : Tbl α n) (i : Fin n) (f : α → α) (v : α → β)
    (h : v (f (Vector.get t i)) = v (Vector.get t i)) : (t.upd i f).map v = t.map v := by
  apply Tbl.ext
  intro j
  rw [Tbl.get_map, Tbl.get_map, Tbl.get_upd]
  by_cases e : j = i
  · subst e; simpa using h
  · simp [e]

/-- Every index of a table is listed. -/
theorem mem_indices {n : Nat} (i : Fin n) : i ∈ indices n := by
  simp only [indices, List.mem_filterMap, List.mem_range]
  exact ⟨i.val, i.isLt, by simp⟩

namespace Machine

variable (s : State)

/-! ### updOp -/

@[simp] theorem State.updOp_pending (o : OpId) (g : OperatorRec → OperatorRec) : (s.updOp o g).pending = s.pending := rfl
@[simp] theorem State.updOp_rt (o : OpId) (g : OperatorRec → OperatorRec) : (s.updOp o g).rt = s.rt := rfl
@[simp] theorem State.updOp_lc (o : OpId) (g : OperatorRec → OperatorRec) : (s.updOp o g).lc = s.lc := rfl
@[simp] theorem State.updOp_um (o : OpId) (g : OperatorRec → OperatorRec) : (s.updOp o g).um = s.um := rfl
@[simp] theorem State.updOp_le (o : OpId) (g : OperatorRec → OperatorRec) : (s.updOp o g).le = s.le := rfl
@[simp] theorem State.updOp_lm (o : OpId) (g : OperatorRec → OperatorRec) : (s.updOp o g).lm = s.lm := rfl
@[simp] theorem State.updOp_se (o : OpId) (g : OperatorRec → OperatorRec) : (s.updOp o g).se = s.se := rfl
@[simp] theorem State.updOp_ps (o : OpId) (g : OperatorRec → OperatorRec) : (s.updOp o g).ps = s.ps := rfl
@[simp] theorem State.updOp_me (o : OpId) (g : OperatorRec → OperatorRec) : (s.updOp o g).me = s.me := rfl
@[simp] theorem State.updOp_fu (o : OpId) (g : OperatorRec → OperatorRec) : (s.updOp o g).fu = s.fu := rfl
@[simp] theorem State.updOp_mp (o : OpId) (g : OperatorRec → OperatorRec) : (s.updOp o g).mp = s.mp := rfl
@[simp] theorem State.updOp_laneOut (o : OpId) (g : OperatorRec → OperatorRec) : (s.updOp o g).laneOut = s.laneOut := rfl
@[simp] theorem State.updOp_payloadOut (o : OpId) (g : OperatorRec → OperatorRec) : (s.updOp o g).payloadOut = s.payloadOut := rfl
@[simp] theorem State.updOp_tu_bands (o : OpId) (g : OperatorRec → OperatorRec) : (s.updOp o g).tu.bands = s.tu.bands := rfl
@[simp] theorem State.updOp_tu_feeds (o : OpId) (g : OperatorRec → OperatorRec) : (s.updOp o g).tu.feeds = s.tu.feeds := rfl
@[simp] theorem State.updOp_tu_monitors (o : OpId) (g : OperatorRec → OperatorRec) : (s.updOp o g).tu.monitors = s.tu.monitors := rfl
@[simp] theorem State.updOp_tu_licenceView (o : OpId) (g : OperatorRec → OperatorRec) : (s.updOp o g).tu.licenceView = s.tu.licenceView := rfl
@[simp] theorem State.updOp_tu_donorView (o : OpId) (g : OperatorRec → OperatorRec) : (s.updOp o g).tu.donorView = s.tu.donorView := rfl
@[simp] theorem State.updOp_tu_suspendView (o : OpId) (g : OperatorRec → OperatorRec) : (s.updOp o g).tu.suspendView = s.tu.suspendView := rfl
@[simp] theorem State.updOp_self (o : OpId) (g : OperatorRec → OperatorRec) : (s.updOp o g).op o = g (s.op o) :=
  Tbl.get_upd_self _ _ _
theorem State.updOp_ne (o : OpId) (g : OperatorRec → OperatorRec) {o' : OpId} (ne : o' ≠ o) : (s.updOp o g).op o' = s.op o' :=
  Tbl.get_upd_ne _ _ ne

/-! ### setBand -/

@[simp] theorem State.setBand_pending (b : SlotId) (w : Option Window) : (s.setBand b w).pending = s.pending := rfl
@[simp] theorem State.setBand_rt (b : SlotId) (w : Option Window) : (s.setBand b w).rt = s.rt := rfl
@[simp] theorem State.setBand_lc (b : SlotId) (w : Option Window) : (s.setBand b w).lc = s.lc := rfl
@[simp] theorem State.setBand_um (b : SlotId) (w : Option Window) : (s.setBand b w).um = s.um := rfl
@[simp] theorem State.setBand_le (b : SlotId) (w : Option Window) : (s.setBand b w).le = s.le := rfl
@[simp] theorem State.setBand_lm (b : SlotId) (w : Option Window) : (s.setBand b w).lm = s.lm := rfl
@[simp] theorem State.setBand_se (b : SlotId) (w : Option Window) : (s.setBand b w).se = s.se := rfl
@[simp] theorem State.setBand_ps (b : SlotId) (w : Option Window) : (s.setBand b w).ps = s.ps := rfl
@[simp] theorem State.setBand_me (b : SlotId) (w : Option Window) : (s.setBand b w).me = s.me := rfl
@[simp] theorem State.setBand_fu (b : SlotId) (w : Option Window) : (s.setBand b w).fu = s.fu := rfl
@[simp] theorem State.setBand_mp (b : SlotId) (w : Option Window) : (s.setBand b w).mp = s.mp := rfl
@[simp] theorem State.setBand_laneOut (b : SlotId) (w : Option Window) : (s.setBand b w).laneOut = s.laneOut := rfl
@[simp] theorem State.setBand_payloadOut (b : SlotId) (w : Option Window) : (s.setBand b w).payloadOut = s.payloadOut := rfl
@[simp] theorem State.setBand_tu_ops (b : SlotId) (w : Option Window) : (s.setBand b w).tu.ops = s.tu.ops := rfl
@[simp] theorem State.setBand_tu_feeds (b : SlotId) (w : Option Window) : (s.setBand b w).tu.feeds = s.tu.feeds := rfl
@[simp] theorem State.setBand_tu_monitors (b : SlotId) (w : Option Window) : (s.setBand b w).tu.monitors = s.tu.monitors := rfl
@[simp] theorem State.setBand_tu_licenceView (b : SlotId) (w : Option Window) : (s.setBand b w).tu.licenceView = s.tu.licenceView := rfl
@[simp] theorem State.setBand_tu_donorView (b : SlotId) (w : Option Window) : (s.setBand b w).tu.donorView = s.tu.donorView := rfl
@[simp] theorem State.setBand_tu_suspendView (b : SlotId) (w : Option Window) : (s.setBand b w).tu.suspendView = s.tu.suspendView := rfl
@[simp] theorem State.setBand_self (b : SlotId) (w : Option Window) : (s.setBand b w).band b = w :=
  Tbl.get_upd_self _ _ _
theorem State.setBand_ne (b : SlotId) (w : Option Window) {b' : SlotId} (ne : b' ≠ b) : (s.setBand b w).band b' = s.band b' :=
  Tbl.get_upd_ne _ _ ne

/-! ### updFeed -/

@[simp] theorem State.updFeed_pending (f : FeedId) (g : FeedRec → FeedRec) : (s.updFeed f g).pending = s.pending := rfl
@[simp] theorem State.updFeed_rt (f : FeedId) (g : FeedRec → FeedRec) : (s.updFeed f g).rt = s.rt := rfl
@[simp] theorem State.updFeed_lc (f : FeedId) (g : FeedRec → FeedRec) : (s.updFeed f g).lc = s.lc := rfl
@[simp] theorem State.updFeed_um (f : FeedId) (g : FeedRec → FeedRec) : (s.updFeed f g).um = s.um := rfl
@[simp] theorem State.updFeed_le (f : FeedId) (g : FeedRec → FeedRec) : (s.updFeed f g).le = s.le := rfl
@[simp] theorem State.updFeed_lm (f : FeedId) (g : FeedRec → FeedRec) : (s.updFeed f g).lm = s.lm := rfl
@[simp] theorem State.updFeed_se (f : FeedId) (g : FeedRec → FeedRec) : (s.updFeed f g).se = s.se := rfl
@[simp] theorem State.updFeed_ps (f : FeedId) (g : FeedRec → FeedRec) : (s.updFeed f g).ps = s.ps := rfl
@[simp] theorem State.updFeed_me (f : FeedId) (g : FeedRec → FeedRec) : (s.updFeed f g).me = s.me := rfl
@[simp] theorem State.updFeed_fu (f : FeedId) (g : FeedRec → FeedRec) : (s.updFeed f g).fu = s.fu := rfl
@[simp] theorem State.updFeed_mp (f : FeedId) (g : FeedRec → FeedRec) : (s.updFeed f g).mp = s.mp := rfl
@[simp] theorem State.updFeed_laneOut (f : FeedId) (g : FeedRec → FeedRec) : (s.updFeed f g).laneOut = s.laneOut := rfl
@[simp] theorem State.updFeed_payloadOut (f : FeedId) (g : FeedRec → FeedRec) : (s.updFeed f g).payloadOut = s.payloadOut := rfl
@[simp] theorem State.updFeed_tu_ops (f : FeedId) (g : FeedRec → FeedRec) : (s.updFeed f g).tu.ops = s.tu.ops := rfl
@[simp] theorem State.updFeed_tu_bands (f : FeedId) (g : FeedRec → FeedRec) : (s.updFeed f g).tu.bands = s.tu.bands := rfl
@[simp] theorem State.updFeed_tu_monitors (f : FeedId) (g : FeedRec → FeedRec) : (s.updFeed f g).tu.monitors = s.tu.monitors := rfl
@[simp] theorem State.updFeed_tu_licenceView (f : FeedId) (g : FeedRec → FeedRec) : (s.updFeed f g).tu.licenceView = s.tu.licenceView := rfl
@[simp] theorem State.updFeed_tu_donorView (f : FeedId) (g : FeedRec → FeedRec) : (s.updFeed f g).tu.donorView = s.tu.donorView := rfl
@[simp] theorem State.updFeed_tu_suspendView (f : FeedId) (g : FeedRec → FeedRec) : (s.updFeed f g).tu.suspendView = s.tu.suspendView := rfl
@[simp] theorem State.updFeed_self (f : FeedId) (g : FeedRec → FeedRec) : (s.updFeed f g).feed f = g (s.feed f) :=
  Tbl.get_upd_self _ _ _
theorem State.updFeed_ne (f : FeedId) (g : FeedRec → FeedRec) {f' : FeedId} (ne : f' ≠ f) : (s.updFeed f g).feed f' = s.feed f' :=
  Tbl.get_upd_ne _ _ ne

/-! ### updMonitor -/

@[simp] theorem State.updMonitor_pending (p : PortId) (g : DonorMonitor → DonorMonitor) : (s.updMonitor p g).pending = s.pending := rfl
@[simp] theorem State.updMonitor_rt (p : PortId) (g : DonorMonitor → DonorMonitor) : (s.updMonitor p g).rt = s.rt := rfl
@[simp] theorem State.updMonitor_lc (p : PortId) (g : DonorMonitor → DonorMonitor) : (s.updMonitor p g).lc = s.lc := rfl
@[simp] theorem State.updMonitor_um (p : PortId) (g : DonorMonitor → DonorMonitor) : (s.updMonitor p g).um = s.um := rfl
@[simp] theorem State.updMonitor_le (p : PortId) (g : DonorMonitor → DonorMonitor) : (s.updMonitor p g).le = s.le := rfl
@[simp] theorem State.updMonitor_lm (p : PortId) (g : DonorMonitor → DonorMonitor) : (s.updMonitor p g).lm = s.lm := rfl
@[simp] theorem State.updMonitor_se (p : PortId) (g : DonorMonitor → DonorMonitor) : (s.updMonitor p g).se = s.se := rfl
@[simp] theorem State.updMonitor_ps (p : PortId) (g : DonorMonitor → DonorMonitor) : (s.updMonitor p g).ps = s.ps := rfl
@[simp] theorem State.updMonitor_me (p : PortId) (g : DonorMonitor → DonorMonitor) : (s.updMonitor p g).me = s.me := rfl
@[simp] theorem State.updMonitor_fu (p : PortId) (g : DonorMonitor → DonorMonitor) : (s.updMonitor p g).fu = s.fu := rfl
@[simp] theorem State.updMonitor_mp (p : PortId) (g : DonorMonitor → DonorMonitor) : (s.updMonitor p g).mp = s.mp := rfl
@[simp] theorem State.updMonitor_laneOut (p : PortId) (g : DonorMonitor → DonorMonitor) : (s.updMonitor p g).laneOut = s.laneOut := rfl
@[simp] theorem State.updMonitor_payloadOut (p : PortId) (g : DonorMonitor → DonorMonitor) : (s.updMonitor p g).payloadOut = s.payloadOut := rfl
@[simp] theorem State.updMonitor_tu_ops (p : PortId) (g : DonorMonitor → DonorMonitor) : (s.updMonitor p g).tu.ops = s.tu.ops := rfl
@[simp] theorem State.updMonitor_tu_bands (p : PortId) (g : DonorMonitor → DonorMonitor) : (s.updMonitor p g).tu.bands = s.tu.bands := rfl
@[simp] theorem State.updMonitor_tu_feeds (p : PortId) (g : DonorMonitor → DonorMonitor) : (s.updMonitor p g).tu.feeds = s.tu.feeds := rfl
@[simp] theorem State.updMonitor_tu_licenceView (p : PortId) (g : DonorMonitor → DonorMonitor) : (s.updMonitor p g).tu.licenceView = s.tu.licenceView := rfl
@[simp] theorem State.updMonitor_tu_donorView (p : PortId) (g : DonorMonitor → DonorMonitor) : (s.updMonitor p g).tu.donorView = s.tu.donorView := rfl
@[simp] theorem State.updMonitor_tu_suspendView (p : PortId) (g : DonorMonitor → DonorMonitor) : (s.updMonitor p g).tu.suspendView = s.tu.suspendView := rfl
@[simp] theorem State.updMonitor_self (p : PortId) (g : DonorMonitor → DonorMonitor) : (s.updMonitor p g).monitor p = g (s.monitor p) :=
  Tbl.get_upd_self _ _ _
theorem State.updMonitor_ne (p : PortId) (g : DonorMonitor → DonorMonitor) {p' : PortId} (ne : p' ≠ p) : (s.updMonitor p g).monitor p' = s.monitor p' :=
  Tbl.get_upd_ne _ _ ne

/-! ### setLicenceView -/

@[simp] theorem State.setLicenceView_pending (f : FeedId) (b : Bool) : (s.setLicenceView f b).pending = s.pending := rfl
@[simp] theorem State.setLicenceView_rt (f : FeedId) (b : Bool) : (s.setLicenceView f b).rt = s.rt := rfl
@[simp] theorem State.setLicenceView_lc (f : FeedId) (b : Bool) : (s.setLicenceView f b).lc = s.lc := rfl
@[simp] theorem State.setLicenceView_um (f : FeedId) (b : Bool) : (s.setLicenceView f b).um = s.um := rfl
@[simp] theorem State.setLicenceView_le (f : FeedId) (b : Bool) : (s.setLicenceView f b).le = s.le := rfl
@[simp] theorem State.setLicenceView_lm (f : FeedId) (b : Bool) : (s.setLicenceView f b).lm = s.lm := rfl
@[simp] theorem State.setLicenceView_se (f : FeedId) (b : Bool) : (s.setLicenceView f b).se = s.se := rfl
@[simp] theorem State.setLicenceView_ps (f : FeedId) (b : Bool) : (s.setLicenceView f b).ps = s.ps := rfl
@[simp] theorem State.setLicenceView_me (f : FeedId) (b : Bool) : (s.setLicenceView f b).me = s.me := rfl
@[simp] theorem State.setLicenceView_fu (f : FeedId) (b : Bool) : (s.setLicenceView f b).fu = s.fu := rfl
@[simp] theorem State.setLicenceView_mp (f : FeedId) (b : Bool) : (s.setLicenceView f b).mp = s.mp := rfl
@[simp] theorem State.setLicenceView_laneOut (f : FeedId) (b : Bool) : (s.setLicenceView f b).laneOut = s.laneOut := rfl
@[simp] theorem State.setLicenceView_payloadOut (f : FeedId) (b : Bool) : (s.setLicenceView f b).payloadOut = s.payloadOut := rfl
@[simp] theorem State.setLicenceView_tu_ops (f : FeedId) (b : Bool) : (s.setLicenceView f b).tu.ops = s.tu.ops := rfl
@[simp] theorem State.setLicenceView_tu_bands (f : FeedId) (b : Bool) : (s.setLicenceView f b).tu.bands = s.tu.bands := rfl
@[simp] theorem State.setLicenceView_tu_feeds (f : FeedId) (b : Bool) : (s.setLicenceView f b).tu.feeds = s.tu.feeds := rfl
@[simp] theorem State.setLicenceView_tu_monitors (f : FeedId) (b : Bool) : (s.setLicenceView f b).tu.monitors = s.tu.monitors := rfl
@[simp] theorem State.setLicenceView_tu_donorView (f : FeedId) (b : Bool) : (s.setLicenceView f b).tu.donorView = s.tu.donorView := rfl
@[simp] theorem State.setLicenceView_tu_suspendView (f : FeedId) (b : Bool) : (s.setLicenceView f b).tu.suspendView = s.tu.suspendView := rfl

/-! ### setDonorView -/

@[simp] theorem State.setDonorView_pending (p : PortId) (b : Bool) : (s.setDonorView p b).pending = s.pending := rfl
@[simp] theorem State.setDonorView_rt (p : PortId) (b : Bool) : (s.setDonorView p b).rt = s.rt := rfl
@[simp] theorem State.setDonorView_lc (p : PortId) (b : Bool) : (s.setDonorView p b).lc = s.lc := rfl
@[simp] theorem State.setDonorView_um (p : PortId) (b : Bool) : (s.setDonorView p b).um = s.um := rfl
@[simp] theorem State.setDonorView_le (p : PortId) (b : Bool) : (s.setDonorView p b).le = s.le := rfl
@[simp] theorem State.setDonorView_lm (p : PortId) (b : Bool) : (s.setDonorView p b).lm = s.lm := rfl
@[simp] theorem State.setDonorView_se (p : PortId) (b : Bool) : (s.setDonorView p b).se = s.se := rfl
@[simp] theorem State.setDonorView_ps (p : PortId) (b : Bool) : (s.setDonorView p b).ps = s.ps := rfl
@[simp] theorem State.setDonorView_me (p : PortId) (b : Bool) : (s.setDonorView p b).me = s.me := rfl
@[simp] theorem State.setDonorView_fu (p : PortId) (b : Bool) : (s.setDonorView p b).fu = s.fu := rfl
@[simp] theorem State.setDonorView_mp (p : PortId) (b : Bool) : (s.setDonorView p b).mp = s.mp := rfl
@[simp] theorem State.setDonorView_laneOut (p : PortId) (b : Bool) : (s.setDonorView p b).laneOut = s.laneOut := rfl
@[simp] theorem State.setDonorView_payloadOut (p : PortId) (b : Bool) : (s.setDonorView p b).payloadOut = s.payloadOut := rfl
@[simp] theorem State.setDonorView_tu_ops (p : PortId) (b : Bool) : (s.setDonorView p b).tu.ops = s.tu.ops := rfl
@[simp] theorem State.setDonorView_tu_bands (p : PortId) (b : Bool) : (s.setDonorView p b).tu.bands = s.tu.bands := rfl
@[simp] theorem State.setDonorView_tu_feeds (p : PortId) (b : Bool) : (s.setDonorView p b).tu.feeds = s.tu.feeds := rfl
@[simp] theorem State.setDonorView_tu_monitors (p : PortId) (b : Bool) : (s.setDonorView p b).tu.monitors = s.tu.monitors := rfl
@[simp] theorem State.setDonorView_tu_licenceView (p : PortId) (b : Bool) : (s.setDonorView p b).tu.licenceView = s.tu.licenceView := rfl
@[simp] theorem State.setDonorView_tu_suspendView (p : PortId) (b : Bool) : (s.setDonorView p b).tu.suspendView = s.tu.suspendView := rfl

/-! ### setSuspendView -/

@[simp] theorem State.setSuspendView_pending (o : OpId) (b : Bool) : (s.setSuspendView o b).pending = s.pending := rfl
@[simp] theorem State.setSuspendView_rt (o : OpId) (b : Bool) : (s.setSuspendView o b).rt = s.rt := rfl
@[simp] theorem State.setSuspendView_lc (o : OpId) (b : Bool) : (s.setSuspendView o b).lc = s.lc := rfl
@[simp] theorem State.setSuspendView_um (o : OpId) (b : Bool) : (s.setSuspendView o b).um = s.um := rfl
@[simp] theorem State.setSuspendView_le (o : OpId) (b : Bool) : (s.setSuspendView o b).le = s.le := rfl
@[simp] theorem State.setSuspendView_lm (o : OpId) (b : Bool) : (s.setSuspendView o b).lm = s.lm := rfl
@[simp] theorem State.setSuspendView_se (o : OpId) (b : Bool) : (s.setSuspendView o b).se = s.se := rfl
@[simp] theorem State.setSuspendView_ps (o : OpId) (b : Bool) : (s.setSuspendView o b).ps = s.ps := rfl
@[simp] theorem State.setSuspendView_me (o : OpId) (b : Bool) : (s.setSuspendView o b).me = s.me := rfl
@[simp] theorem State.setSuspendView_fu (o : OpId) (b : Bool) : (s.setSuspendView o b).fu = s.fu := rfl
@[simp] theorem State.setSuspendView_mp (o : OpId) (b : Bool) : (s.setSuspendView o b).mp = s.mp := rfl
@[simp] theorem State.setSuspendView_laneOut (o : OpId) (b : Bool) : (s.setSuspendView o b).laneOut = s.laneOut := rfl
@[simp] theorem State.setSuspendView_payloadOut (o : OpId) (b : Bool) : (s.setSuspendView o b).payloadOut = s.payloadOut := rfl
@[simp] theorem State.setSuspendView_tu_ops (o : OpId) (b : Bool) : (s.setSuspendView o b).tu.ops = s.tu.ops := rfl
@[simp] theorem State.setSuspendView_tu_bands (o : OpId) (b : Bool) : (s.setSuspendView o b).tu.bands = s.tu.bands := rfl
@[simp] theorem State.setSuspendView_tu_feeds (o : OpId) (b : Bool) : (s.setSuspendView o b).tu.feeds = s.tu.feeds := rfl
@[simp] theorem State.setSuspendView_tu_monitors (o : OpId) (b : Bool) : (s.setSuspendView o b).tu.monitors = s.tu.monitors := rfl
@[simp] theorem State.setSuspendView_tu_licenceView (o : OpId) (b : Bool) : (s.setSuspendView o b).tu.licenceView = s.tu.licenceView := rfl
@[simp] theorem State.setSuspendView_tu_donorView (o : OpId) (b : Bool) : (s.setSuspendView o b).tu.donorView = s.tu.donorView := rfl

/-! ### updZone -/

@[simp] theorem State.updZone_pending (z : ZoneId) (g : ZoneRec → ZoneRec) : (s.updZone z g).pending = s.pending := rfl
@[simp] theorem State.updZone_tu (z : ZoneId) (g : ZoneRec → ZoneRec) : (s.updZone z g).tu = s.tu := rfl
@[simp] theorem State.updZone_lc (z : ZoneId) (g : ZoneRec → ZoneRec) : (s.updZone z g).lc = s.lc := rfl
@[simp] theorem State.updZone_um (z : ZoneId) (g : ZoneRec → ZoneRec) : (s.updZone z g).um = s.um := rfl
@[simp] theorem State.updZone_le (z : ZoneId) (g : ZoneRec → ZoneRec) : (s.updZone z g).le = s.le := rfl
@[simp] theorem State.updZone_lm (z : ZoneId) (g : ZoneRec → ZoneRec) : (s.updZone z g).lm = s.lm := rfl
@[simp] theorem State.updZone_se (z : ZoneId) (g : ZoneRec → ZoneRec) : (s.updZone z g).se = s.se := rfl
@[simp] theorem State.updZone_ps (z : ZoneId) (g : ZoneRec → ZoneRec) : (s.updZone z g).ps = s.ps := rfl
@[simp] theorem State.updZone_me (z : ZoneId) (g : ZoneRec → ZoneRec) : (s.updZone z g).me = s.me := rfl
@[simp] theorem State.updZone_fu (z : ZoneId) (g : ZoneRec → ZoneRec) : (s.updZone z g).fu = s.fu := rfl
@[simp] theorem State.updZone_mp (z : ZoneId) (g : ZoneRec → ZoneRec) : (s.updZone z g).mp = s.mp := rfl
@[simp] theorem State.updZone_laneOut (z : ZoneId) (g : ZoneRec → ZoneRec) : (s.updZone z g).laneOut = s.laneOut := rfl
@[simp] theorem State.updZone_payloadOut (z : ZoneId) (g : ZoneRec → ZoneRec) : (s.updZone z g).payloadOut = s.payloadOut := rfl
@[simp] theorem State.updZone_rt_sets (z : ZoneId) (g : ZoneRec → ZoneRec) : (s.updZone z g).rt.sets = s.rt.sets := rfl
@[simp] theorem State.updZone_self (z : ZoneId) (g : ZoneRec → ZoneRec) : (s.updZone z g).zone z = g (s.zone z) :=
  Tbl.get_upd_self _ _ _
theorem State.updZone_ne (z : ZoneId) (g : ZoneRec → ZoneRec) {z' : ZoneId} (ne : z' ≠ z) : (s.updZone z g).zone z' = s.zone z' :=
  Tbl.get_upd_ne _ _ ne

/-! ### updSet -/

@[simp] theorem State.updSet_pending (i : Fin 64) (g : RouteSet → RouteSet) : (s.updSet i g).pending = s.pending := rfl
@[simp] theorem State.updSet_tu (i : Fin 64) (g : RouteSet → RouteSet) : (s.updSet i g).tu = s.tu := rfl
@[simp] theorem State.updSet_lc (i : Fin 64) (g : RouteSet → RouteSet) : (s.updSet i g).lc = s.lc := rfl
@[simp] theorem State.updSet_um (i : Fin 64) (g : RouteSet → RouteSet) : (s.updSet i g).um = s.um := rfl
@[simp] theorem State.updSet_le (i : Fin 64) (g : RouteSet → RouteSet) : (s.updSet i g).le = s.le := rfl
@[simp] theorem State.updSet_lm (i : Fin 64) (g : RouteSet → RouteSet) : (s.updSet i g).lm = s.lm := rfl
@[simp] theorem State.updSet_se (i : Fin 64) (g : RouteSet → RouteSet) : (s.updSet i g).se = s.se := rfl
@[simp] theorem State.updSet_ps (i : Fin 64) (g : RouteSet → RouteSet) : (s.updSet i g).ps = s.ps := rfl
@[simp] theorem State.updSet_me (i : Fin 64) (g : RouteSet → RouteSet) : (s.updSet i g).me = s.me := rfl
@[simp] theorem State.updSet_fu (i : Fin 64) (g : RouteSet → RouteSet) : (s.updSet i g).fu = s.fu := rfl
@[simp] theorem State.updSet_mp (i : Fin 64) (g : RouteSet → RouteSet) : (s.updSet i g).mp = s.mp := rfl
@[simp] theorem State.updSet_laneOut (i : Fin 64) (g : RouteSet → RouteSet) : (s.updSet i g).laneOut = s.laneOut := rfl
@[simp] theorem State.updSet_payloadOut (i : Fin 64) (g : RouteSet → RouteSet) : (s.updSet i g).payloadOut = s.payloadOut := rfl
@[simp] theorem State.updSet_rt_zones (i : Fin 64) (g : RouteSet → RouteSet) : (s.updSet i g).rt.zones = s.rt.zones := rfl
@[simp] theorem State.updSet_self (i : Fin 64) (g : RouteSet → RouteSet) : (s.updSet i g).routeSet i = g (s.routeSet i) :=
  Tbl.get_upd_self _ _ _
theorem State.updSet_ne (i : Fin 64) (g : RouteSet → RouteSet) {i' : Fin 64} (ne : i' ≠ i) : (s.updSet i g).routeSet i' = s.routeSet i' :=
  Tbl.get_upd_ne _ _ ne

/-! ### updLink -/

@[simp] theorem State.updLink_pending (l : LinkId) (g : LinkRec → LinkRec) : (s.updLink l g).pending = s.pending := rfl
@[simp] theorem State.updLink_tu (l : LinkId) (g : LinkRec → LinkRec) : (s.updLink l g).tu = s.tu := rfl
@[simp] theorem State.updLink_rt (l : LinkId) (g : LinkRec → LinkRec) : (s.updLink l g).rt = s.rt := rfl
@[simp] theorem State.updLink_um (l : LinkId) (g : LinkRec → LinkRec) : (s.updLink l g).um = s.um := rfl
@[simp] theorem State.updLink_le (l : LinkId) (g : LinkRec → LinkRec) : (s.updLink l g).le = s.le := rfl
@[simp] theorem State.updLink_lm (l : LinkId) (g : LinkRec → LinkRec) : (s.updLink l g).lm = s.lm := rfl
@[simp] theorem State.updLink_se (l : LinkId) (g : LinkRec → LinkRec) : (s.updLink l g).se = s.se := rfl
@[simp] theorem State.updLink_ps (l : LinkId) (g : LinkRec → LinkRec) : (s.updLink l g).ps = s.ps := rfl
@[simp] theorem State.updLink_me (l : LinkId) (g : LinkRec → LinkRec) : (s.updLink l g).me = s.me := rfl
@[simp] theorem State.updLink_fu (l : LinkId) (g : LinkRec → LinkRec) : (s.updLink l g).fu = s.fu := rfl
@[simp] theorem State.updLink_mp (l : LinkId) (g : LinkRec → LinkRec) : (s.updLink l g).mp = s.mp := rfl
@[simp] theorem State.updLink_laneOut (l : LinkId) (g : LinkRec → LinkRec) : (s.updLink l g).laneOut = s.laneOut := rfl
@[simp] theorem State.updLink_payloadOut (l : LinkId) (g : LinkRec → LinkRec) : (s.updLink l g).payloadOut = s.payloadOut := rfl
@[simp] theorem State.updLink_self (l : LinkId) (g : LinkRec → LinkRec) : (s.updLink l g).link l = g (s.link l) :=
  Tbl.get_upd_self _ _ _
theorem State.updLink_ne (l : LinkId) (g : LinkRec → LinkRec) {l' : LinkId} (ne : l' ≠ l) : (s.updLink l g).link l' = s.link l' :=
  Tbl.get_upd_ne _ _ ne

/-! ### updUnit -/

@[simp] theorem State.updUnit_pending (u : UnitId) (g : UnitRec → UnitRec) : (s.updUnit u g).pending = s.pending := rfl
@[simp] theorem State.updUnit_tu (u : UnitId) (g : UnitRec → UnitRec) : (s.updUnit u g).tu = s.tu := rfl
@[simp] theorem State.updUnit_rt (u : UnitId) (g : UnitRec → UnitRec) : (s.updUnit u g).rt = s.rt := rfl
@[simp] theorem State.updUnit_lc (u : UnitId) (g : UnitRec → UnitRec) : (s.updUnit u g).lc = s.lc := rfl
@[simp] theorem State.updUnit_le (u : UnitId) (g : UnitRec → UnitRec) : (s.updUnit u g).le = s.le := rfl
@[simp] theorem State.updUnit_lm (u : UnitId) (g : UnitRec → UnitRec) : (s.updUnit u g).lm = s.lm := rfl
@[simp] theorem State.updUnit_se (u : UnitId) (g : UnitRec → UnitRec) : (s.updUnit u g).se = s.se := rfl
@[simp] theorem State.updUnit_ps (u : UnitId) (g : UnitRec → UnitRec) : (s.updUnit u g).ps = s.ps := rfl
@[simp] theorem State.updUnit_me (u : UnitId) (g : UnitRec → UnitRec) : (s.updUnit u g).me = s.me := rfl
@[simp] theorem State.updUnit_fu (u : UnitId) (g : UnitRec → UnitRec) : (s.updUnit u g).fu = s.fu := rfl
@[simp] theorem State.updUnit_mp (u : UnitId) (g : UnitRec → UnitRec) : (s.updUnit u g).mp = s.mp := rfl
@[simp] theorem State.updUnit_laneOut (u : UnitId) (g : UnitRec → UnitRec) : (s.updUnit u g).laneOut = s.laneOut := rfl
@[simp] theorem State.updUnit_payloadOut (u : UnitId) (g : UnitRec → UnitRec) : (s.updUnit u g).payloadOut = s.payloadOut := rfl
@[simp] theorem State.updUnit_um_arbiters (u : UnitId) (g : UnitRec → UnitRec) : (s.updUnit u g).um.arbiters = s.um.arbiters := rfl
@[simp] theorem State.updUnit_um_pollInterval (u : UnitId) (g : UnitRec → UnitRec) : (s.updUnit u g).um.pollInterval = s.um.pollInterval := rfl
@[simp] theorem State.updUnit_self (u : UnitId) (g : UnitRec → UnitRec) : (s.updUnit u g).unit u = g (s.unit u) :=
  Tbl.get_upd_self _ _ _
theorem State.updUnit_ne (u : UnitId) (g : UnitRec → UnitRec) {u' : UnitId} (ne : u' ≠ u) : (s.updUnit u g).unit u' = s.unit u' :=
  Tbl.get_upd_ne _ _ ne

/-! ### updArbiter -/

@[simp] theorem State.updArbiter_pending (l : LinkId) (g : Arbiter → Arbiter) : (s.updArbiter l g).pending = s.pending := rfl
@[simp] theorem State.updArbiter_tu (l : LinkId) (g : Arbiter → Arbiter) : (s.updArbiter l g).tu = s.tu := rfl
@[simp] theorem State.updArbiter_rt (l : LinkId) (g : Arbiter → Arbiter) : (s.updArbiter l g).rt = s.rt := rfl
@[simp] theorem State.updArbiter_lc (l : LinkId) (g : Arbiter → Arbiter) : (s.updArbiter l g).lc = s.lc := rfl
@[simp] theorem State.updArbiter_le (l : LinkId) (g : Arbiter → Arbiter) : (s.updArbiter l g).le = s.le := rfl
@[simp] theorem State.updArbiter_lm (l : LinkId) (g : Arbiter → Arbiter) : (s.updArbiter l g).lm = s.lm := rfl
@[simp] theorem State.updArbiter_se (l : LinkId) (g : Arbiter → Arbiter) : (s.updArbiter l g).se = s.se := rfl
@[simp] theorem State.updArbiter_ps (l : LinkId) (g : Arbiter → Arbiter) : (s.updArbiter l g).ps = s.ps := rfl
@[simp] theorem State.updArbiter_me (l : LinkId) (g : Arbiter → Arbiter) : (s.updArbiter l g).me = s.me := rfl
@[simp] theorem State.updArbiter_fu (l : LinkId) (g : Arbiter → Arbiter) : (s.updArbiter l g).fu = s.fu := rfl
@[simp] theorem State.updArbiter_mp (l : LinkId) (g : Arbiter → Arbiter) : (s.updArbiter l g).mp = s.mp := rfl
@[simp] theorem State.updArbiter_laneOut (l : LinkId) (g : Arbiter → Arbiter) : (s.updArbiter l g).laneOut = s.laneOut := rfl
@[simp] theorem State.updArbiter_payloadOut (l : LinkId) (g : Arbiter → Arbiter) : (s.updArbiter l g).payloadOut = s.payloadOut := rfl
@[simp] theorem State.updArbiter_um_units (l : LinkId) (g : Arbiter → Arbiter) : (s.updArbiter l g).um.units = s.um.units := rfl
@[simp] theorem State.updArbiter_um_pollInterval (l : LinkId) (g : Arbiter → Arbiter) : (s.updArbiter l g).um.pollInterval = s.um.pollInterval := rfl
@[simp] theorem State.updArbiter_self (l : LinkId) (g : Arbiter → Arbiter) : (s.updArbiter l g).arbiter l = g (s.arbiter l) :=
  Tbl.get_upd_self _ _ _
theorem State.updArbiter_ne (l : LinkId) (g : Arbiter → Arbiter) {l' : LinkId} (ne : l' ≠ l) : (s.updArbiter l g).arbiter l' = s.arbiter l' :=
  Tbl.get_upd_ne _ _ ne

/-! ### updCombiner -/

@[simp] theorem State.updCombiner_pending (f : FeedId) (g : CombinerRec → CombinerRec) : (s.updCombiner f g).pending = s.pending := rfl
@[simp] theorem State.updCombiner_tu (f : FeedId) (g : CombinerRec → CombinerRec) : (s.updCombiner f g).tu = s.tu := rfl
@[simp] theorem State.updCombiner_rt (f : FeedId) (g : CombinerRec → CombinerRec) : (s.updCombiner f g).rt = s.rt := rfl
@[simp] theorem State.updCombiner_lc (f : FeedId) (g : CombinerRec → CombinerRec) : (s.updCombiner f g).lc = s.lc := rfl
@[simp] theorem State.updCombiner_um (f : FeedId) (g : CombinerRec → CombinerRec) : (s.updCombiner f g).um = s.um := rfl
@[simp] theorem State.updCombiner_lm (f : FeedId) (g : CombinerRec → CombinerRec) : (s.updCombiner f g).lm = s.lm := rfl
@[simp] theorem State.updCombiner_se (f : FeedId) (g : CombinerRec → CombinerRec) : (s.updCombiner f g).se = s.se := rfl
@[simp] theorem State.updCombiner_ps (f : FeedId) (g : CombinerRec → CombinerRec) : (s.updCombiner f g).ps = s.ps := rfl
@[simp] theorem State.updCombiner_me (f : FeedId) (g : CombinerRec → CombinerRec) : (s.updCombiner f g).me = s.me := rfl
@[simp] theorem State.updCombiner_fu (f : FeedId) (g : CombinerRec → CombinerRec) : (s.updCombiner f g).fu = s.fu := rfl
@[simp] theorem State.updCombiner_mp (f : FeedId) (g : CombinerRec → CombinerRec) : (s.updCombiner f g).mp = s.mp := rfl
@[simp] theorem State.updCombiner_laneOut (f : FeedId) (g : CombinerRec → CombinerRec) : (s.updCombiner f g).laneOut = s.laneOut := rfl
@[simp] theorem State.updCombiner_payloadOut (f : FeedId) (g : CombinerRec → CombinerRec) : (s.updCombiner f g).payloadOut = s.payloadOut := rfl
@[simp] theorem State.updCombiner_le_mixers (f : FeedId) (g : CombinerRec → CombinerRec) : (s.updCombiner f g).le.mixers = s.le.mixers := rfl
@[simp] theorem State.updCombiner_le_limit (f : FeedId) (g : CombinerRec → CombinerRec) : (s.updCombiner f g).le.limit = s.le.limit := rfl
@[simp] theorem State.updCombiner_self (f : FeedId) (g : CombinerRec → CombinerRec) : (s.updCombiner f g).combiner f = g (s.combiner f) :=
  Tbl.get_upd_self _ _ _
theorem State.updCombiner_ne (f : FeedId) (g : CombinerRec → CombinerRec) {f' : FeedId} (ne : f' ≠ f) : (s.updCombiner f g).combiner f' = s.combiner f' :=
  Tbl.get_upd_ne _ _ ne

/-! ### updMixer -/

@[simp] theorem State.updMixer_pending (u : UnitId) (g : MixerRec → MixerRec) : (s.updMixer u g).pending = s.pending := rfl
@[simp] theorem State.updMixer_tu (u : UnitId) (g : MixerRec → MixerRec) : (s.updMixer u g).tu = s.tu := rfl
@[simp] theorem State.updMixer_rt (u : UnitId) (g : MixerRec → MixerRec) : (s.updMixer u g).rt = s.rt := rfl
@[simp] theorem State.updMixer_lc (u : UnitId) (g : MixerRec → MixerRec) : (s.updMixer u g).lc = s.lc := rfl
@[simp] theorem State.updMixer_um (u : UnitId) (g : MixerRec → MixerRec) : (s.updMixer u g).um = s.um := rfl
@[simp] theorem State.updMixer_lm (u : UnitId) (g : MixerRec → MixerRec) : (s.updMixer u g).lm = s.lm := rfl
@[simp] theorem State.updMixer_se (u : UnitId) (g : MixerRec → MixerRec) : (s.updMixer u g).se = s.se := rfl
@[simp] theorem State.updMixer_ps (u : UnitId) (g : MixerRec → MixerRec) : (s.updMixer u g).ps = s.ps := rfl
@[simp] theorem State.updMixer_me (u : UnitId) (g : MixerRec → MixerRec) : (s.updMixer u g).me = s.me := rfl
@[simp] theorem State.updMixer_fu (u : UnitId) (g : MixerRec → MixerRec) : (s.updMixer u g).fu = s.fu := rfl
@[simp] theorem State.updMixer_mp (u : UnitId) (g : MixerRec → MixerRec) : (s.updMixer u g).mp = s.mp := rfl
@[simp] theorem State.updMixer_laneOut (u : UnitId) (g : MixerRec → MixerRec) : (s.updMixer u g).laneOut = s.laneOut := rfl
@[simp] theorem State.updMixer_payloadOut (u : UnitId) (g : MixerRec → MixerRec) : (s.updMixer u g).payloadOut = s.payloadOut := rfl
@[simp] theorem State.updMixer_le_combiners (u : UnitId) (g : MixerRec → MixerRec) : (s.updMixer u g).le.combiners = s.le.combiners := rfl
@[simp] theorem State.updMixer_le_limit (u : UnitId) (g : MixerRec → MixerRec) : (s.updMixer u g).le.limit = s.le.limit := rfl
@[simp] theorem State.updMixer_self (u : UnitId) (g : MixerRec → MixerRec) : (s.updMixer u g).mixer u = g (s.mixer u) :=
  Tbl.get_upd_self _ _ _
theorem State.updMixer_ne (u : UnitId) (g : MixerRec → MixerRec) {u' : UnitId} (ne : u' ≠ u) : (s.updMixer u g).mixer u' = s.mixer u' :=
  Tbl.get_upd_ne _ _ ne

/-! ### updMeasure -/

@[simp] theorem State.updMeasure_pending (u : UnitId) (g : MeasureRec → MeasureRec) : (s.updMeasure u g).pending = s.pending := rfl
@[simp] theorem State.updMeasure_tu (u : UnitId) (g : MeasureRec → MeasureRec) : (s.updMeasure u g).tu = s.tu := rfl
@[simp] theorem State.updMeasure_rt (u : UnitId) (g : MeasureRec → MeasureRec) : (s.updMeasure u g).rt = s.rt := rfl
@[simp] theorem State.updMeasure_lc (u : UnitId) (g : MeasureRec → MeasureRec) : (s.updMeasure u g).lc = s.lc := rfl
@[simp] theorem State.updMeasure_um (u : UnitId) (g : MeasureRec → MeasureRec) : (s.updMeasure u g).um = s.um := rfl
@[simp] theorem State.updMeasure_le (u : UnitId) (g : MeasureRec → MeasureRec) : (s.updMeasure u g).le = s.le := rfl
@[simp] theorem State.updMeasure_se (u : UnitId) (g : MeasureRec → MeasureRec) : (s.updMeasure u g).se = s.se := rfl
@[simp] theorem State.updMeasure_ps (u : UnitId) (g : MeasureRec → MeasureRec) : (s.updMeasure u g).ps = s.ps := rfl
@[simp] theorem State.updMeasure_me (u : UnitId) (g : MeasureRec → MeasureRec) : (s.updMeasure u g).me = s.me := rfl
@[simp] theorem State.updMeasure_fu (u : UnitId) (g : MeasureRec → MeasureRec) : (s.updMeasure u g).fu = s.fu := rfl
@[simp] theorem State.updMeasure_mp (u : UnitId) (g : MeasureRec → MeasureRec) : (s.updMeasure u g).mp = s.mp := rfl
@[simp] theorem State.updMeasure_laneOut (u : UnitId) (g : MeasureRec → MeasureRec) : (s.updMeasure u g).laneOut = s.laneOut := rfl
@[simp] theorem State.updMeasure_payloadOut (u : UnitId) (g : MeasureRec → MeasureRec) : (s.updMeasure u g).payloadOut = s.payloadOut := rfl
@[simp] theorem State.updMeasure_lm_zones (u : UnitId) (g : MeasureRec → MeasureRec) : (s.updMeasure u g).lm.zones = s.lm.zones := rfl
@[simp] theorem State.updMeasure_lm_timer (u : UnitId) (g : MeasureRec → MeasureRec) : (s.updMeasure u g).lm.timer = s.lm.timer := rfl
@[simp] theorem State.updMeasure_lm_period (u : UnitId) (g : MeasureRec → MeasureRec) : (s.updMeasure u g).lm.period = s.lm.period := rfl
@[simp] theorem State.updMeasure_lm_shift (u : UnitId) (g : MeasureRec → MeasureRec) : (s.updMeasure u g).lm.shift = s.lm.shift := rfl
@[simp] theorem State.updMeasure_self (u : UnitId) (g : MeasureRec → MeasureRec) : (s.updMeasure u g).measure u = g (s.measure u) :=
  Tbl.get_upd_self _ _ _
theorem State.updMeasure_ne (u : UnitId) (g : MeasureRec → MeasureRec) {u' : UnitId} (ne : u' ≠ u) : (s.updMeasure u g).measure u' = s.measure u' :=
  Tbl.get_upd_ne _ _ ne

/-! ### updLoad -/

@[simp] theorem State.updLoad_pending (z : ZoneId) (g : LoadRec → LoadRec) : (s.updLoad z g).pending = s.pending := rfl
@[simp] theorem State.updLoad_tu (z : ZoneId) (g : LoadRec → LoadRec) : (s.updLoad z g).tu = s.tu := rfl
@[simp] theorem State.updLoad_rt (z : ZoneId) (g : LoadRec → LoadRec) : (s.updLoad z g).rt = s.rt := rfl
@[simp] theorem State.updLoad_lc (z : ZoneId) (g : LoadRec → LoadRec) : (s.updLoad z g).lc = s.lc := rfl
@[simp] theorem State.updLoad_um (z : ZoneId) (g : LoadRec → LoadRec) : (s.updLoad z g).um = s.um := rfl
@[simp] theorem State.updLoad_le (z : ZoneId) (g : LoadRec → LoadRec) : (s.updLoad z g).le = s.le := rfl
@[simp] theorem State.updLoad_se (z : ZoneId) (g : LoadRec → LoadRec) : (s.updLoad z g).se = s.se := rfl
@[simp] theorem State.updLoad_ps (z : ZoneId) (g : LoadRec → LoadRec) : (s.updLoad z g).ps = s.ps := rfl
@[simp] theorem State.updLoad_me (z : ZoneId) (g : LoadRec → LoadRec) : (s.updLoad z g).me = s.me := rfl
@[simp] theorem State.updLoad_fu (z : ZoneId) (g : LoadRec → LoadRec) : (s.updLoad z g).fu = s.fu := rfl
@[simp] theorem State.updLoad_mp (z : ZoneId) (g : LoadRec → LoadRec) : (s.updLoad z g).mp = s.mp := rfl
@[simp] theorem State.updLoad_laneOut (z : ZoneId) (g : LoadRec → LoadRec) : (s.updLoad z g).laneOut = s.laneOut := rfl
@[simp] theorem State.updLoad_payloadOut (z : ZoneId) (g : LoadRec → LoadRec) : (s.updLoad z g).payloadOut = s.payloadOut := rfl
@[simp] theorem State.updLoad_lm_measures (z : ZoneId) (g : LoadRec → LoadRec) : (s.updLoad z g).lm.measures = s.lm.measures := rfl
@[simp] theorem State.updLoad_lm_timer (z : ZoneId) (g : LoadRec → LoadRec) : (s.updLoad z g).lm.timer = s.lm.timer := rfl
@[simp] theorem State.updLoad_lm_period (z : ZoneId) (g : LoadRec → LoadRec) : (s.updLoad z g).lm.period = s.lm.period := rfl
@[simp] theorem State.updLoad_lm_shift (z : ZoneId) (g : LoadRec → LoadRec) : (s.updLoad z g).lm.shift = s.lm.shift := rfl
@[simp] theorem State.updLoad_self (z : ZoneId) (g : LoadRec → LoadRec) : (s.updLoad z g).load z = g (s.load z) :=
  Tbl.get_upd_self _ _ _
theorem State.updLoad_ne (z : ZoneId) (g : LoadRec → LoadRec) {z' : ZoneId} (ne : z' ≠ z) : (s.updLoad z g).load z' = s.load z' :=
  Tbl.get_upd_ne _ _ ne

/-! ### updBank -/

@[simp] theorem State.updBank_pending (n : BankId) (g : Bank → Bank) : (s.updBank n g).pending = s.pending := rfl
@[simp] theorem State.updBank_tu (n : BankId) (g : Bank → Bank) : (s.updBank n g).tu = s.tu := rfl
@[simp] theorem State.updBank_rt (n : BankId) (g : Bank → Bank) : (s.updBank n g).rt = s.rt := rfl
@[simp] theorem State.updBank_lc (n : BankId) (g : Bank → Bank) : (s.updBank n g).lc = s.lc := rfl
@[simp] theorem State.updBank_um (n : BankId) (g : Bank → Bank) : (s.updBank n g).um = s.um := rfl
@[simp] theorem State.updBank_le (n : BankId) (g : Bank → Bank) : (s.updBank n g).le = s.le := rfl
@[simp] theorem State.updBank_lm (n : BankId) (g : Bank → Bank) : (s.updBank n g).lm = s.lm := rfl
@[simp] theorem State.updBank_se (n : BankId) (g : Bank → Bank) : (s.updBank n g).se = s.se := rfl
@[simp] theorem State.updBank_me (n : BankId) (g : Bank → Bank) : (s.updBank n g).me = s.me := rfl
@[simp] theorem State.updBank_fu (n : BankId) (g : Bank → Bank) : (s.updBank n g).fu = s.fu := rfl
@[simp] theorem State.updBank_mp (n : BankId) (g : Bank → Bank) : (s.updBank n g).mp = s.mp := rfl
@[simp] theorem State.updBank_laneOut (n : BankId) (g : Bank → Bank) : (s.updBank n g).laneOut = s.laneOut := rfl
@[simp] theorem State.updBank_payloadOut (n : BankId) (g : Bank → Bank) : (s.updBank n g).payloadOut = s.payloadOut := rfl
@[simp] theorem State.updBank_ps_active (n : BankId) (g : Bank → Bank) : (s.updBank n g).ps.active = s.ps.active := rfl
@[simp] theorem State.updBank_ps_pending (n : BankId) (g : Bank → Bank) : (s.updBank n g).ps.pending = s.ps.pending := rfl
@[simp] theorem State.updBank_ps_holds (n : BankId) (g : Bank → Bank) : (s.updBank n g).ps.holds = s.ps.holds := rfl
@[simp] theorem State.updBank_self (n : BankId) (g : Bank → Bank) : (s.updBank n g).bank n = g (s.bank n) :=
  Tbl.get_upd_self _ _ _
theorem State.updBank_ne (n : BankId) (g : Bank → Bank) {n' : BankId} (ne : n' ≠ n) : (s.updBank n g).bank n' = s.bank n' :=
  Tbl.get_upd_ne _ _ ne

/-! ### setHold -/

@[simp] theorem State.setHold_pending (z : ZoneId) (o : Option Issuer) : (s.setHold z o).pending = s.pending := rfl
@[simp] theorem State.setHold_tu (z : ZoneId) (o : Option Issuer) : (s.setHold z o).tu = s.tu := rfl
@[simp] theorem State.setHold_rt (z : ZoneId) (o : Option Issuer) : (s.setHold z o).rt = s.rt := rfl
@[simp] theorem State.setHold_lc (z : ZoneId) (o : Option Issuer) : (s.setHold z o).lc = s.lc := rfl
@[simp] theorem State.setHold_um (z : ZoneId) (o : Option Issuer) : (s.setHold z o).um = s.um := rfl
@[simp] theorem State.setHold_le (z : ZoneId) (o : Option Issuer) : (s.setHold z o).le = s.le := rfl
@[simp] theorem State.setHold_lm (z : ZoneId) (o : Option Issuer) : (s.setHold z o).lm = s.lm := rfl
@[simp] theorem State.setHold_se (z : ZoneId) (o : Option Issuer) : (s.setHold z o).se = s.se := rfl
@[simp] theorem State.setHold_me (z : ZoneId) (o : Option Issuer) : (s.setHold z o).me = s.me := rfl
@[simp] theorem State.setHold_fu (z : ZoneId) (o : Option Issuer) : (s.setHold z o).fu = s.fu := rfl
@[simp] theorem State.setHold_mp (z : ZoneId) (o : Option Issuer) : (s.setHold z o).mp = s.mp := rfl
@[simp] theorem State.setHold_laneOut (z : ZoneId) (o : Option Issuer) : (s.setHold z o).laneOut = s.laneOut := rfl
@[simp] theorem State.setHold_payloadOut (z : ZoneId) (o : Option Issuer) : (s.setHold z o).payloadOut = s.payloadOut := rfl
@[simp] theorem State.setHold_ps_banks (z : ZoneId) (o : Option Issuer) : (s.setHold z o).ps.banks = s.ps.banks := rfl
@[simp] theorem State.setHold_ps_active (z : ZoneId) (o : Option Issuer) : (s.setHold z o).ps.active = s.ps.active := rfl
@[simp] theorem State.setHold_ps_pending (z : ZoneId) (o : Option Issuer) : (s.setHold z o).ps.pending = s.ps.pending := rfl
@[simp] theorem State.setHold_self (z : ZoneId) (o : Option Issuer) : (s.setHold z o).holdOf z = o :=
  Tbl.get_upd_self _ _ _
theorem State.setHold_ne (z : ZoneId) (o : Option Issuer) {z' : ZoneId} (ne : z' ≠ z) : (s.setHold z o).holdOf z' = s.holdOf z' :=
  Tbl.get_upd_ne _ _ ne

/-! ### setHome -/

@[simp] theorem State.setHome_pending (u : UnitId) (h : Home) : (s.setHome u h).pending = s.pending := rfl
@[simp] theorem State.setHome_tu (u : UnitId) (h : Home) : (s.setHome u h).tu = s.tu := rfl
@[simp] theorem State.setHome_rt (u : UnitId) (h : Home) : (s.setHome u h).rt = s.rt := rfl
@[simp] theorem State.setHome_lc (u : UnitId) (h : Home) : (s.setHome u h).lc = s.lc := rfl
@[simp] theorem State.setHome_um (u : UnitId) (h : Home) : (s.setHome u h).um = s.um := rfl
@[simp] theorem State.setHome_le (u : UnitId) (h : Home) : (s.setHome u h).le = s.le := rfl
@[simp] theorem State.setHome_lm (u : UnitId) (h : Home) : (s.setHome u h).lm = s.lm := rfl
@[simp] theorem State.setHome_se (u : UnitId) (h : Home) : (s.setHome u h).se = s.se := rfl
@[simp] theorem State.setHome_ps (u : UnitId) (h : Home) : (s.setHome u h).ps = s.ps := rfl
@[simp] theorem State.setHome_fu (u : UnitId) (h : Home) : (s.setHome u h).fu = s.fu := rfl
@[simp] theorem State.setHome_mp (u : UnitId) (h : Home) : (s.setHome u h).mp = s.mp := rfl
@[simp] theorem State.setHome_laneOut (u : UnitId) (h : Home) : (s.setHome u h).laneOut = s.laneOut := rfl
@[simp] theorem State.setHome_payloadOut (u : UnitId) (h : Home) : (s.setHome u h).payloadOut = s.payloadOut := rfl
@[simp] theorem State.setHome_me_blends (u : UnitId) (h : Home) : (s.setHome u h).me.blends = s.me.blends := rfl
@[simp] theorem State.setHome_me_queue (u : UnitId) (h : Home) : (s.setHome u h).me.queue = s.me.queue := rfl
@[simp] theorem State.setHome_me_retry (u : UnitId) (h : Home) : (s.setHome u h).me.retry = s.me.retry := rfl
@[simp] theorem State.setHome_me_params (u : UnitId) (h : Home) : (s.setHome u h).me.params = s.me.params := rfl
@[simp] theorem State.setHome_self (u : UnitId) (h : Home) : (s.setHome u h).home u = h :=
  Tbl.get_upd_self _ _ _
theorem State.setHome_ne (u : UnitId) (h : Home) {u' : UnitId} (ne : u' ≠ u) : (s.setHome u h).home u' = s.home u' :=
  Tbl.get_upd_ne _ _ ne

/-! ### setBlend -/

@[simp] theorem State.setBlend_pending (u : UnitId) (b : Option Blend) : (s.setBlend u b).pending = s.pending := rfl
@[simp] theorem State.setBlend_tu (u : UnitId) (b : Option Blend) : (s.setBlend u b).tu = s.tu := rfl
@[simp] theorem State.setBlend_rt (u : UnitId) (b : Option Blend) : (s.setBlend u b).rt = s.rt := rfl
@[simp] theorem State.setBlend_lc (u : UnitId) (b : Option Blend) : (s.setBlend u b).lc = s.lc := rfl
@[simp] theorem State.setBlend_um (u : UnitId) (b : Option Blend) : (s.setBlend u b).um = s.um := rfl
@[simp] theorem State.setBlend_le (u : UnitId) (b : Option Blend) : (s.setBlend u b).le = s.le := rfl
@[simp] theorem State.setBlend_lm (u : UnitId) (b : Option Blend) : (s.setBlend u b).lm = s.lm := rfl
@[simp] theorem State.setBlend_se (u : UnitId) (b : Option Blend) : (s.setBlend u b).se = s.se := rfl
@[simp] theorem State.setBlend_ps (u : UnitId) (b : Option Blend) : (s.setBlend u b).ps = s.ps := rfl
@[simp] theorem State.setBlend_fu (u : UnitId) (b : Option Blend) : (s.setBlend u b).fu = s.fu := rfl
@[simp] theorem State.setBlend_mp (u : UnitId) (b : Option Blend) : (s.setBlend u b).mp = s.mp := rfl
@[simp] theorem State.setBlend_laneOut (u : UnitId) (b : Option Blend) : (s.setBlend u b).laneOut = s.laneOut := rfl
@[simp] theorem State.setBlend_payloadOut (u : UnitId) (b : Option Blend) : (s.setBlend u b).payloadOut = s.payloadOut := rfl
@[simp] theorem State.setBlend_me_homes (u : UnitId) (b : Option Blend) : (s.setBlend u b).me.homes = s.me.homes := rfl
@[simp] theorem State.setBlend_me_queue (u : UnitId) (b : Option Blend) : (s.setBlend u b).me.queue = s.me.queue := rfl
@[simp] theorem State.setBlend_me_retry (u : UnitId) (b : Option Blend) : (s.setBlend u b).me.retry = s.me.retry := rfl
@[simp] theorem State.setBlend_me_params (u : UnitId) (b : Option Blend) : (s.setBlend u b).me.params = s.me.params := rfl
@[simp] theorem State.setBlend_self (u : UnitId) (b : Option Blend) : (s.setBlend u b).blend u = b :=
  Tbl.get_upd_self _ _ _
theorem State.setBlend_ne (u : UnitId) (b : Option Blend) {u' : UnitId} (ne : u' ≠ u) : (s.setBlend u b).blend u' = s.blend u' :=
  Tbl.get_upd_ne _ _ ne

/-! ### updMe -/

@[simp] theorem State.updMe_pending (g : MigrationEngine → MigrationEngine) : (s.updMe g).pending = s.pending := rfl
@[simp] theorem State.updMe_tu (g : MigrationEngine → MigrationEngine) : (s.updMe g).tu = s.tu := rfl
@[simp] theorem State.updMe_rt (g : MigrationEngine → MigrationEngine) : (s.updMe g).rt = s.rt := rfl
@[simp] theorem State.updMe_lc (g : MigrationEngine → MigrationEngine) : (s.updMe g).lc = s.lc := rfl
@[simp] theorem State.updMe_um (g : MigrationEngine → MigrationEngine) : (s.updMe g).um = s.um := rfl
@[simp] theorem State.updMe_le (g : MigrationEngine → MigrationEngine) : (s.updMe g).le = s.le := rfl
@[simp] theorem State.updMe_lm (g : MigrationEngine → MigrationEngine) : (s.updMe g).lm = s.lm := rfl
@[simp] theorem State.updMe_se (g : MigrationEngine → MigrationEngine) : (s.updMe g).se = s.se := rfl
@[simp] theorem State.updMe_ps (g : MigrationEngine → MigrationEngine) : (s.updMe g).ps = s.ps := rfl
@[simp] theorem State.updMe_fu (g : MigrationEngine → MigrationEngine) : (s.updMe g).fu = s.fu := rfl
@[simp] theorem State.updMe_mp (g : MigrationEngine → MigrationEngine) : (s.updMe g).mp = s.mp := rfl
@[simp] theorem State.updMe_laneOut (g : MigrationEngine → MigrationEngine) : (s.updMe g).laneOut = s.laneOut := rfl
@[simp] theorem State.updMe_payloadOut (g : MigrationEngine → MigrationEngine) : (s.updMe g).payloadOut = s.payloadOut := rfl
@[simp] theorem State.updMe_me (g : MigrationEngine → MigrationEngine) : (s.updMe g).me = g s.me := rfl

/-! ### updSe -/

@[simp] theorem State.updSe_pending (g : SpreadEngine → SpreadEngine) : (s.updSe g).pending = s.pending := rfl
@[simp] theorem State.updSe_tu (g : SpreadEngine → SpreadEngine) : (s.updSe g).tu = s.tu := rfl
@[simp] theorem State.updSe_rt (g : SpreadEngine → SpreadEngine) : (s.updSe g).rt = s.rt := rfl
@[simp] theorem State.updSe_lc (g : SpreadEngine → SpreadEngine) : (s.updSe g).lc = s.lc := rfl
@[simp] theorem State.updSe_um (g : SpreadEngine → SpreadEngine) : (s.updSe g).um = s.um := rfl
@[simp] theorem State.updSe_le (g : SpreadEngine → SpreadEngine) : (s.updSe g).le = s.le := rfl
@[simp] theorem State.updSe_lm (g : SpreadEngine → SpreadEngine) : (s.updSe g).lm = s.lm := rfl
@[simp] theorem State.updSe_ps (g : SpreadEngine → SpreadEngine) : (s.updSe g).ps = s.ps := rfl
@[simp] theorem State.updSe_me (g : SpreadEngine → SpreadEngine) : (s.updSe g).me = s.me := rfl
@[simp] theorem State.updSe_fu (g : SpreadEngine → SpreadEngine) : (s.updSe g).fu = s.fu := rfl
@[simp] theorem State.updSe_mp (g : SpreadEngine → SpreadEngine) : (s.updSe g).mp = s.mp := rfl
@[simp] theorem State.updSe_laneOut (g : SpreadEngine → SpreadEngine) : (s.updSe g).laneOut = s.laneOut := rfl
@[simp] theorem State.updSe_payloadOut (g : SpreadEngine → SpreadEngine) : (s.updSe g).payloadOut = s.payloadOut := rfl
@[simp] theorem State.updSe_se (g : SpreadEngine → SpreadEngine) : (s.updSe g).se = g s.se := rfl

/-! ### updLm -/

@[simp] theorem State.updLm_pending (g : LoadMonitor → LoadMonitor) : (s.updLm g).pending = s.pending := rfl
@[simp] theorem State.updLm_tu (g : LoadMonitor → LoadMonitor) : (s.updLm g).tu = s.tu := rfl
@[simp] theorem State.updLm_rt (g : LoadMonitor → LoadMonitor) : (s.updLm g).rt = s.rt := rfl
@[simp] theorem State.updLm_lc (g : LoadMonitor → LoadMonitor) : (s.updLm g).lc = s.lc := rfl
@[simp] theorem State.updLm_um (g : LoadMonitor → LoadMonitor) : (s.updLm g).um = s.um := rfl
@[simp] theorem State.updLm_le (g : LoadMonitor → LoadMonitor) : (s.updLm g).le = s.le := rfl
@[simp] theorem State.updLm_se (g : LoadMonitor → LoadMonitor) : (s.updLm g).se = s.se := rfl
@[simp] theorem State.updLm_ps (g : LoadMonitor → LoadMonitor) : (s.updLm g).ps = s.ps := rfl
@[simp] theorem State.updLm_me (g : LoadMonitor → LoadMonitor) : (s.updLm g).me = s.me := rfl
@[simp] theorem State.updLm_fu (g : LoadMonitor → LoadMonitor) : (s.updLm g).fu = s.fu := rfl
@[simp] theorem State.updLm_mp (g : LoadMonitor → LoadMonitor) : (s.updLm g).mp = s.mp := rfl
@[simp] theorem State.updLm_laneOut (g : LoadMonitor → LoadMonitor) : (s.updLm g).laneOut = s.laneOut := rfl
@[simp] theorem State.updLm_payloadOut (g : LoadMonitor → LoadMonitor) : (s.updLm g).payloadOut = s.payloadOut := rfl
@[simp] theorem State.updLm_lm (g : LoadMonitor → LoadMonitor) : (s.updLm g).lm = g s.lm := rfl

/-! ### updPs -/

@[simp] theorem State.updPs_pending (g : PlanStore → PlanStore) : (s.updPs g).pending = s.pending := rfl
@[simp] theorem State.updPs_tu (g : PlanStore → PlanStore) : (s.updPs g).tu = s.tu := rfl
@[simp] theorem State.updPs_rt (g : PlanStore → PlanStore) : (s.updPs g).rt = s.rt := rfl
@[simp] theorem State.updPs_lc (g : PlanStore → PlanStore) : (s.updPs g).lc = s.lc := rfl
@[simp] theorem State.updPs_um (g : PlanStore → PlanStore) : (s.updPs g).um = s.um := rfl
@[simp] theorem State.updPs_le (g : PlanStore → PlanStore) : (s.updPs g).le = s.le := rfl
@[simp] theorem State.updPs_lm (g : PlanStore → PlanStore) : (s.updPs g).lm = s.lm := rfl
@[simp] theorem State.updPs_se (g : PlanStore → PlanStore) : (s.updPs g).se = s.se := rfl
@[simp] theorem State.updPs_me (g : PlanStore → PlanStore) : (s.updPs g).me = s.me := rfl
@[simp] theorem State.updPs_fu (g : PlanStore → PlanStore) : (s.updPs g).fu = s.fu := rfl
@[simp] theorem State.updPs_mp (g : PlanStore → PlanStore) : (s.updPs g).mp = s.mp := rfl
@[simp] theorem State.updPs_laneOut (g : PlanStore → PlanStore) : (s.updPs g).laneOut = s.laneOut := rfl
@[simp] theorem State.updPs_payloadOut (g : PlanStore → PlanStore) : (s.updPs g).payloadOut = s.payloadOut := rfl
@[simp] theorem State.updPs_ps (g : PlanStore → PlanStore) : (s.updPs g).ps = g s.ps := rfl

/-! ### updUm -/

@[simp] theorem State.updUm_pending (g : UnitMgr → UnitMgr) : (s.updUm g).pending = s.pending := rfl
@[simp] theorem State.updUm_tu (g : UnitMgr → UnitMgr) : (s.updUm g).tu = s.tu := rfl
@[simp] theorem State.updUm_rt (g : UnitMgr → UnitMgr) : (s.updUm g).rt = s.rt := rfl
@[simp] theorem State.updUm_lc (g : UnitMgr → UnitMgr) : (s.updUm g).lc = s.lc := rfl
@[simp] theorem State.updUm_le (g : UnitMgr → UnitMgr) : (s.updUm g).le = s.le := rfl
@[simp] theorem State.updUm_lm (g : UnitMgr → UnitMgr) : (s.updUm g).lm = s.lm := rfl
@[simp] theorem State.updUm_se (g : UnitMgr → UnitMgr) : (s.updUm g).se = s.se := rfl
@[simp] theorem State.updUm_ps (g : UnitMgr → UnitMgr) : (s.updUm g).ps = s.ps := rfl
@[simp] theorem State.updUm_me (g : UnitMgr → UnitMgr) : (s.updUm g).me = s.me := rfl
@[simp] theorem State.updUm_fu (g : UnitMgr → UnitMgr) : (s.updUm g).fu = s.fu := rfl
@[simp] theorem State.updUm_mp (g : UnitMgr → UnitMgr) : (s.updUm g).mp = s.mp := rfl
@[simp] theorem State.updUm_laneOut (g : UnitMgr → UnitMgr) : (s.updUm g).laneOut = s.laneOut := rfl
@[simp] theorem State.updUm_payloadOut (g : UnitMgr → UnitMgr) : (s.updUm g).payloadOut = s.payloadOut := rfl
@[simp] theorem State.updUm_um (g : UnitMgr → UnitMgr) : (s.updUm g).um = g s.um := rfl

/-! ### updFu -/

@[simp] theorem State.updFu_pending (g : FaultUnit → FaultUnit) : (s.updFu g).pending = s.pending := rfl
@[simp] theorem State.updFu_tu (g : FaultUnit → FaultUnit) : (s.updFu g).tu = s.tu := rfl
@[simp] theorem State.updFu_rt (g : FaultUnit → FaultUnit) : (s.updFu g).rt = s.rt := rfl
@[simp] theorem State.updFu_lc (g : FaultUnit → FaultUnit) : (s.updFu g).lc = s.lc := rfl
@[simp] theorem State.updFu_um (g : FaultUnit → FaultUnit) : (s.updFu g).um = s.um := rfl
@[simp] theorem State.updFu_le (g : FaultUnit → FaultUnit) : (s.updFu g).le = s.le := rfl
@[simp] theorem State.updFu_lm (g : FaultUnit → FaultUnit) : (s.updFu g).lm = s.lm := rfl
@[simp] theorem State.updFu_se (g : FaultUnit → FaultUnit) : (s.updFu g).se = s.se := rfl
@[simp] theorem State.updFu_ps (g : FaultUnit → FaultUnit) : (s.updFu g).ps = s.ps := rfl
@[simp] theorem State.updFu_me (g : FaultUnit → FaultUnit) : (s.updFu g).me = s.me := rfl
@[simp] theorem State.updFu_mp (g : FaultUnit → FaultUnit) : (s.updFu g).mp = s.mp := rfl
@[simp] theorem State.updFu_laneOut (g : FaultUnit → FaultUnit) : (s.updFu g).laneOut = s.laneOut := rfl
@[simp] theorem State.updFu_payloadOut (g : FaultUnit → FaultUnit) : (s.updFu g).payloadOut = s.payloadOut := rfl
@[simp] theorem State.updFu_fu (g : FaultUnit → FaultUnit) : (s.updFu g).fu = g s.fu := rfl

/-! ### updMp -/

@[simp] theorem State.updMp_pending (g : Port → Port) : (s.updMp g).pending = s.pending := rfl
@[simp] theorem State.updMp_tu (g : Port → Port) : (s.updMp g).tu = s.tu := rfl
@[simp] theorem State.updMp_rt (g : Port → Port) : (s.updMp g).rt = s.rt := rfl
@[simp] theorem State.updMp_lc (g : Port → Port) : (s.updMp g).lc = s.lc := rfl
@[simp] theorem State.updMp_um (g : Port → Port) : (s.updMp g).um = s.um := rfl
@[simp] theorem State.updMp_le (g : Port → Port) : (s.updMp g).le = s.le := rfl
@[simp] theorem State.updMp_lm (g : Port → Port) : (s.updMp g).lm = s.lm := rfl
@[simp] theorem State.updMp_se (g : Port → Port) : (s.updMp g).se = s.se := rfl
@[simp] theorem State.updMp_ps (g : Port → Port) : (s.updMp g).ps = s.ps := rfl
@[simp] theorem State.updMp_me (g : Port → Port) : (s.updMp g).me = s.me := rfl
@[simp] theorem State.updMp_fu (g : Port → Port) : (s.updMp g).fu = s.fu := rfl
@[simp] theorem State.updMp_laneOut (g : Port → Port) : (s.updMp g).laneOut = s.laneOut := rfl
@[simp] theorem State.updMp_payloadOut (g : Port → Port) : (s.updMp g).payloadOut = s.payloadOut := rfl
@[simp] theorem State.updMp_mp (g : Port → Port) : (s.updMp g).mp = g s.mp := rfl

/-! ### setLane -/

@[simp] theorem State.setLane_pending (i : Fin 32) (x : IQ) : (s.setLane i x).pending = s.pending := rfl
@[simp] theorem State.setLane_tu (i : Fin 32) (x : IQ) : (s.setLane i x).tu = s.tu := rfl
@[simp] theorem State.setLane_rt (i : Fin 32) (x : IQ) : (s.setLane i x).rt = s.rt := rfl
@[simp] theorem State.setLane_lc (i : Fin 32) (x : IQ) : (s.setLane i x).lc = s.lc := rfl
@[simp] theorem State.setLane_um (i : Fin 32) (x : IQ) : (s.setLane i x).um = s.um := rfl
@[simp] theorem State.setLane_le (i : Fin 32) (x : IQ) : (s.setLane i x).le = s.le := rfl
@[simp] theorem State.setLane_lm (i : Fin 32) (x : IQ) : (s.setLane i x).lm = s.lm := rfl
@[simp] theorem State.setLane_se (i : Fin 32) (x : IQ) : (s.setLane i x).se = s.se := rfl
@[simp] theorem State.setLane_ps (i : Fin 32) (x : IQ) : (s.setLane i x).ps = s.ps := rfl
@[simp] theorem State.setLane_me (i : Fin 32) (x : IQ) : (s.setLane i x).me = s.me := rfl
@[simp] theorem State.setLane_fu (i : Fin 32) (x : IQ) : (s.setLane i x).fu = s.fu := rfl
@[simp] theorem State.setLane_mp (i : Fin 32) (x : IQ) : (s.setLane i x).mp = s.mp := rfl
@[simp] theorem State.setLane_payloadOut (i : Fin 32) (x : IQ) : (s.setLane i x).payloadOut = s.payloadOut := rfl

/-! ### setPayload -/

@[simp] theorem State.setPayload_pending (u : UnitId) (x : IQ) : (s.setPayload u x).pending = s.pending := rfl
@[simp] theorem State.setPayload_tu (u : UnitId) (x : IQ) : (s.setPayload u x).tu = s.tu := rfl
@[simp] theorem State.setPayload_rt (u : UnitId) (x : IQ) : (s.setPayload u x).rt = s.rt := rfl
@[simp] theorem State.setPayload_lc (u : UnitId) (x : IQ) : (s.setPayload u x).lc = s.lc := rfl
@[simp] theorem State.setPayload_um (u : UnitId) (x : IQ) : (s.setPayload u x).um = s.um := rfl
@[simp] theorem State.setPayload_le (u : UnitId) (x : IQ) : (s.setPayload u x).le = s.le := rfl
@[simp] theorem State.setPayload_lm (u : UnitId) (x : IQ) : (s.setPayload u x).lm = s.lm := rfl
@[simp] theorem State.setPayload_se (u : UnitId) (x : IQ) : (s.setPayload u x).se = s.se := rfl
@[simp] theorem State.setPayload_ps (u : UnitId) (x : IQ) : (s.setPayload u x).ps = s.ps := rfl
@[simp] theorem State.setPayload_me (u : UnitId) (x : IQ) : (s.setPayload u x).me = s.me := rfl
@[simp] theorem State.setPayload_fu (u : UnitId) (x : IQ) : (s.setPayload u x).fu = s.fu := rfl
@[simp] theorem State.setPayload_mp (u : UnitId) (x : IQ) : (s.setPayload u x).mp = s.mp := rfl
@[simp] theorem State.setPayload_laneOut (u : UnitId) (x : IQ) : (s.setPayload u x).laneOut = s.laneOut := rfl

end Machine
end Sys2Proof
end

