-- ==== Sys2Proof/Laws/Follow.lean ====
section
/-! SUPPORT. What fault reports and follow-up work leave: the view `State.still` of the state, whole. -/

namespace Sys2Proof.Machine

/-! ### Work that is gathered -/

theorem thenWork_keeps {β : Type} (v : State → β) {w : Worked} {g : State → Worked} (h : ∀ s, v (g s).1 = v s) :
    v (thenWork w g).1 = v w.1 := h w.1

theorem eachWork_keeps {α β : Type} (v : State → β) (l : List α) {g : α → State → Worked} (h : ∀ a s, v (g a s).1 = v s)
    (s : State) : v (eachWork l g s).1 = v s := by
  suffices ∀ w : Worked, v (l.foldl (fun w a => thenWork w (g a)) w).1 = v w.1 from this (s, [])
  induction l with
  | nil => exact fun _ => rfl
  | cons a l ih => exact fun w => (ih _).trans (h a w.1)

/-! ### Updates within what the view leaves out -/

theorem State.still_updFeed {s : State} {f : FeedId} {g : FeedRec → FeedRec} (h : (g (s.feed f)).still = (s.feed f).still) :
    (s.updFeed f g).still = s.still := by
  simp only [State.still, State.updFeed, Tbl.map_upd _ _ _ _ h]

theorem State.still_updUnit {s : State} {u : UnitId} {g : UnitRec → UnitRec} (h : (g (s.unit u)).still = (s.unit u).still) :
    (s.updUnit u g).still = s.still := by
  simp only [State.still, State.updUnit, Tbl.map_upd _ _ _ _ h]

theorem State.still_updCombiner {s : State} {f : FeedId} {g : CombinerRec → CombinerRec}
    (h : (g (s.combiner f)).still = (s.combiner f).still) : (s.updCombiner f g).still = s.still := by
  simp only [State.still, State.updCombiner, Tbl.map_upd _ _ _ _ h]

theorem State.still_updMixer {s : State} {u : UnitId} {g : MixerRec → MixerRec}
    (h : (g (s.mixer u)).still = (s.mixer u).still) : (s.updMixer u g).still = s.still := by
  simp only [State.still, State.updMixer, Tbl.map_upd _ _ _ _ h]

theorem State.still_updFu {s : State} {g : FaultUnit → FaultUnit} (hp : (g s.fu).policy = s.fu.policy)
    (hc : (g s.fu).clock = s.fu.clock) : (s.updFu g).still = s.still := by
  simp only [State.still, State.updFu, hp, hc]

theorem Port.still_post (m : Port) (k : NoticeKind) (fs : List Fld) : (m.post k fs).still = m.still := by
  unfold Port.post
  split <;> rfl

theorem State.still_post (s : State) (k : NoticeKind) (fs : List Fld) : (s.post k fs).still = s.still := by
  simp only [State.still, State.post, State.updMp, Port.still_post]

/-! ### Mute reasons -/

theorem muteUnit_still (u : UnitId) (g : UnitMutes → UnitMutes) (h : ∀ m, (g m).issuerMute = m.issuerMute) (s : State) :
    (muteUnit u g s).1.still = s.still := by
  refine State.still_updUnit ?_
  simp [UnitRec.still, h]

theorem muteFeed_still (f : FeedId) (g : FeedMutes → FeedMutes)
    (h : ∀ m, { g m with faultAction := false, faultLatch := false } = { m with faultAction := false, faultLatch := false })
    (s : State) : (muteFeed f g s).1.still = s.still := by
  refine State.still_updFeed ?_
  simp [FeedRec.still, h]

theorem writeAction_still (src : Source) (on : Bool) (s : State) : (writeAction src on s).1.still = s.still := by
  cases src with
  | unit u => exact muteUnit_still u (fun m => { m with faultAction := on }) (fun _ => rfl) s
  | feed f => exact muteFeed_still f (fun m => { m with faultAction := on }) (fun _ => rfl) s
  | link l =>
    exact eachWork_keeps _ _ (fun u s => muteUnit_still u (fun m => { m with linkAction := on }) (fun _ => rfl) s) s
  | port _ => rfl
  | operator _ => rfl

theorem writeLatch_still (src : Source) (s : State) : (writeLatch src s).1.still = s.still := by
  cases src with
  | unit u => exact muteUnit_still u (fun m => { m with faultLatch := s.unitLatched u }) (fun _ => rfl) s
  | feed f => exact muteFeed_still f (fun m => { m with faultLatch := s.feedLatched f }) (fun _ => rfl) s
  | link l =>
    exact eachWork_keeps _ _
      (fun u x => muteUnit_still u (fun m => { m with faultLatch := s.unitLatched u }) (fun _ => rfl) x) s
  | port _ => rfl
  | operator _ => rfl

theorem createAction_still (k : FaultKind) (src : Source) (b : Bool) (s : State) :
    (createAction k src b s).1.still = s.still := by
  unfold createAction
  split
  · rfl
  · exact writeAction_still src true _

theorem removeActions_still (sel : ActionRec → Bool) (s : State) : (removeActions sel s).1.still = s.still := by
  refine (eachWork_keeps State.still _ (fun a s => ?_) _).trans rfl
  split
  · rfl
  · exact writeAction_still _ _ _

/-! ### Reports -/

theorem FaultUnit.logRaised_fixed (fu : FaultUnit) (k : FaultKind) (src : Source) (ev : FaultEvent) (d : Word) :
    (fu.logRaised k src ev d).1.policy = fu.policy ∧ (fu.logRaised k src ev d).1.clock = fu.clock := by
  unfold FaultUnit.logRaised
  split
  · exact ⟨rfl, rfl⟩
  · split
    · exact ⟨rfl, rfl⟩
    · split <;> exact ⟨rfl, rfl⟩

theorem FaultUnit.logInactive_fixed (fu : FaultUnit) (k : FaultKind) (src : Source) (d : Word) :
    (fu.logInactive k src d).1.policy = fu.policy ∧ (fu.logInactive k src d).1.clock = fu.clock := by
  unfold FaultUnit.logInactive
  split <;> exact ⟨rfl, rfl⟩

theorem muteStep_still (k : FaultKind) (src : Source) (ev : FaultEvent) (b : Bool) (s : State) :
    (muteStep k src ev b s).1.still = s.still := by
  cases ev with
  | active =>
    unfold muteStep; dsimp only
    split
    · exact createAction_still _ _ _ _
    · rfl
  | inactive => exact removeActions_still _ _
  | occurred =>
    unfold muteStep; dsimp only
    split
    · exact createAction_still _ _ _ _
    · rfl

theorem latchStep_still (k : FaultKind) (src : Source) (ev : FaultEvent) (b : Bool) (s : State) :
    (latchStep k src ev b s).1.still = s.still := by
  unfold latchStep
  split
  · exact writeLatch_still src _
  · rfl

/-- A fault report changes nothing but the log, the action list, fault mutes and notices. -/
theorem report_still (k : FaultKind) (src : Source) (ev : FaultEvent) (d : Word) (s : State) :
    (report k src ev d s).1.still = s.still := by
  have key : ∀ x : FaultUnit × Bool, x.1.policy = s.fu.policy → x.1.clock = s.fu.clock →
      (thenWork (muteStep k src ev x.2 { s with fu := x.1 }) (latchStep k src ev x.2)).1.still = s.still := by
    intro x hp hc
    refine (latchStep_still k src ev x.2 _).trans ((muteStep_still k src ev x.2 _).trans ?_)
    simp only [State.still, hp, hc]
  have fin : ∀ x : FaultUnit × Bool, x.1.policy = s.fu.policy → x.1.clock = s.fu.clock →
      (let w := thenWork (muteStep k src ev x.2 { s with fu := x.1 }) (latchStep k src ev x.2)
       if (w.1.policy k).notify then (w.1.post .fault (faultFields k src ev d x.2 w.1.fu), w.2) else w).1.still = s.still := by
    intro x hp hc
    dsimp only
    split
    · exact (State.still_post _ _ _).trans (key x hp hc)
    · exact key x hp hc
  cases ev with
  | active => exact fin _ (FaultUnit.logRaised_fixed ..).1 (FaultUnit.logRaised_fixed ..).2
  | occurred => exact fin _ (FaultUnit.logRaised_fixed ..).1 (FaultUnit.logRaised_fixed ..).2
  | inactive => exact fin _ (FaultUnit.logInactive_fixed ..).1 (FaultUnit.logInactive_fixed ..).2

theorem reportChange_still (k : FaultKind) (src : Source) (was now : Bool) (d : Word) (s : State) :
    (reportChange k src was now d s).1.still = s.still := by
  unfold reportChange
  split
  · rfl
  · exact report_still _ _ _ _ _

/-! ### Follow-up work -/

theorem judgeNoise_still (f : FeedId) (b : Bool) (s : State) : (judgeNoise f b s).1.still = s.still :=
  (reportChange_still _ _ _ _ _ _).trans (State.still_updCombiner rfl)

theorem judgeOverload_still (f : FeedId) (b : Bool) (s : State) : (judgeOverload f b s).1.still = s.still :=
  (reportChange_still _ _ _ _ _ _).trans (State.still_updCombiner rfl)

theorem judgePower_still (u : UnitId) (b : Bool) (s : State) : (judgePower u b s).1.still = s.still :=
  (reportChange_still _ _ _ _ _ _).trans (State.still_updMixer rfl)

theorem judgeClip_still (u : UnitId) (b : Bool) (s : State) : (judgeClip u b s).1.still = s.still :=
  (reportChange_still _ _ _ _ _ _).trans (State.still_updMixer rfl)

theorem recombine_still (f : FeedId) (s : State) : (recombine f s).1.still = s.still := by
  have h : (s.updCombiner f fun _ => s.combinerNow f).still = s.still := State.still_updCombiner rfl
  unfold recombine; dsimp only
  split
  · exact (judgeNoise_still _ _ _).trans h
  · split
    · exact h
    · exact (judgeOverload_still _ _ _).trans ((judgeNoise_still _ _ _).trans h)

theorem State.mixerNow_clips (s : State) (u : UnitId) : (s.mixerNow u).still = (s.mixer u).still := by
  unfold State.mixerNow
  split <;> rfl

theorem remix_still (u : UnitId) (s : State) : (remix u s).1.still = s.still := by
  have h : (s.updMixer u fun _ => s.mixerNow u).still = s.still := State.still_updMixer (s.mixerNow_clips u)
  unfold remix; dsimp only
  split
  · exact (judgePower_still _ _ _).trans h
  · exact (judgeClip_still _ _ _).trans ((judgePower_still _ _ _).trans h)

theorem UnitRec.still_derive (r : UnitRec) (needed : BitVec 8) (b : Bool) :
    ({ r.derive needed with view := { r.view with bandUnsupported := b } } : UnitRec).still = r.still := by
  unfold UnitRec.derive; dsimp only
  split <;> split <;> rfl

theorem rederive_still (u : UnitId) (s : State) : (rederive u s).1.still = s.still :=
  (reportChange_still _ _ _ _ _ _).trans (State.still_updUnit (UnitRec.still_derive _ _ _))

theorem doWork_still (w : Work) (s : State) : (doWork w s).1.still = s.still := by
  cases w with
  | combiner f => exact recombine_still f s
  | mixer u => exact remix_still u s
  | bands u => exact rederive_still u s

theorem workRound_still (w : Worked) : (workRound w).1.still = w.1.still :=
  (eachWork_keeps _ _ (fun w s => doWork_still w s) _).trans (eachWork_keeps _ _ (fun w s => doWork_still w s) _)

theorem drain_still (n : Nat) : ∀ w : Worked, (drain n w).still = w.1.still := by
  induction n with
  | zero => exact fun _ => rfl
  | succ n ih =>
    intro w
    unfold drain
    split
    · rfl
    · exact (ih _).trans (workRound_still w)

/-- Follow-up work changes nothing but what it computes and what its reports write. -/
theorem settle_still (w : Worked) : (settle w).still = w.1.still := drain_still _ _

/-- A reply added to two states that agree in the view leaves them agreeing. -/
theorem State.still_reply {s t : State} (e : s.still = t.still) (code : Nat) (h : Hdr) (r : Result) (fs : List Fld) :
    (s.reply code h r fs).still = (t.reply code h r fs).still := by
  have split : ∀ x : State, (x.reply code h r fs).still =
      { x.still with mp := { x.still.mp with replies := x.still.mp.replies ++
        [{ kind := code + 0x80, tag := h.tag, result := r, fields := fs }] } } := fun _ => rfl
  rw [split, split, e]

/-- The answer of a change agrees in the view with the change itself, answered. -/
theorem State.still_answer (w : Worked) (code : Nat) (h : Hdr) (r : Result) (fs : List Fld) :
    (State.answer w code h r fs).still = (w.1.reply code h r fs).still :=
  State.still_reply (settle_still w) code h r fs

end Sys2Proof.Machine
end

