-- ==== Sys2Proof/Laws/Requests.lean ====
section
/-! SUPPORT. The taking of a request (spec/10 R190): what each check of MP answers, and what taking leaves. -/

namespace Sys2Proof.Machine

/-- The state as the owning block finds it differs in the input buffer alone. -/
theorem Port.dropTaken_eq (m : Port) (i : Instr) : m.dropTaken i = { m with input := (m.dropTaken i).input } := by
  unfold Port.dropTaken
  split
  · rfl
  · split <;> rfl

/-- A request that passes every check of MP is handed to its owning block. -/
theorem State.take_passes {s : State} {i : Instr} {h : Hdr} {right : Right} (code : Nat) (body : State → State)
    (hh : hdrOf i = h) (hr : rightOf i = right) (p : s.passes i = true) :
    s.take i h code right body = body (s.handed i) := by
  subst hh hr
  simp only [State.passes, Bool.and_eq_true] at p
  obtain ⟨⟨⟨hc, hl⟩, hf⟩, ha⟩ := p
  have ha' : (s.updMp (·.dropTaken i)).admits (hdrOf i) (rightOf i) = true := ha
  simp [State.take, State.takeForm, hc, hl, hf, ha', State.handed]

/-- While MP may not take a request, it waits. -/
theorem State.take_waits {s : State} (i : Instr) (h : Hdr) (code : Nat) (right : Right) (body : State → State)
    (hc : s.canTake = false) : s.take i h code right body = s := by
  simp [State.take, State.takeForm, hc]

/-- A request of a wrong length is refused BAD_LENGTH. -/
theorem State.take_badLength {s : State} {i : Instr} {h : Hdr} (code : Nat) (right : Right) (body : State → State)
    (hc : s.canTake = true) (hl : h.lengthOk = false) :
    s.take i h code right body = (s.handed i).reply code h .badLength := by
  simp [State.take, State.takeForm, hc, hl, State.handed]

/-- A request of an issuer without the right is refused NOT_PERMITTED. -/
theorem State.take_notPermitted {s : State} {i : Instr} {h : Hdr} (code : Nat) {right : Right} (body : State → State)
    (hc : s.canTake = true) (hl : h.lengthOk = true) (ha : s.admits h right = false) :
    s.take i h code right body = (s.handed i).reply code h .notPermitted := by
  have ha' : (s.updMp (·.dropTaken i)).admits h right = false := ha
  simp [State.take, State.takeForm, hc, hl, ha', State.handed]

/-- A request with a form octet beyond its rule's forms is refused BAD_VALUE. -/
theorem State.take_badForm {s : State} {i : Instr} {h : Hdr} (code : Nat) {right : Right} (body : State → State)
    (hc : s.canTake = true) (hl : h.lengthOk = true) (ha : s.admits h right = true) (hf : h.formOk = false) :
    s.take i h code right body = (s.handed i).reply code h .badValue := by
  have ha' : (s.updMp (·.dropTaken i)).admits h right = true := ha
  simp [State.take, State.takeForm, hc, hl, ha', hf, State.handed]

/-- A request whose block judges its form octets itself, handed to that block by MP's three checks. -/
theorem State.takeForm_admitted {s : State} {i : Instr} {h : Hdr} (code : Nat) {right : Right} (body : State → State)
    (hc : s.canTake = true) (hl : h.lengthOk = true) (ha : s.admits h right = true) :
    s.takeForm i h code right body = body (s.handed i) := by
  have ha' : (s.updMp (·.dropTaken i)).admits h right = true := ha
  simp [State.takeForm, hc, hl, ha', State.handed]

/-- Where the form octets are well, both ways of taking are one. -/
theorem State.takeForm_eq_take {s : State} {i : Instr} {h : Hdr} (code : Nat) (right : Right) (body : State → State)
    (hf : h.formOk = true) : s.takeForm i h code right body = s.take i h code right body := by
  simp [State.take, hf]

/-- An event happens while the RESET pin does not hold the part. -/
theorem State.unheld_free {s : State} (body : State → State) (h : s.mp.pinAsserted = false) : s.unheld body = body s := by
  simp [State.unheld, h]

/-- While the RESET pin holds the part, nothing happens. -/
theorem State.unheld_held {s : State} (body : State → State) (h : s.mp.pinAsserted = true) : s.unheld body = s := by
  simp [State.unheld, h]

/-! ### Fields that taking leaves -/

@[simp] theorem State.handed_pending (s : State) (i : Instr) : (s.handed i).pending = s.pending := rfl
@[simp] theorem State.handed_tu (s : State) (i : Instr) : (s.handed i).tu = s.tu := rfl
@[simp] theorem State.handed_rt (s : State) (i : Instr) : (s.handed i).rt = s.rt := rfl
@[simp] theorem State.handed_lc (s : State) (i : Instr) : (s.handed i).lc = s.lc := rfl
@[simp] theorem State.handed_um (s : State) (i : Instr) : (s.handed i).um = s.um := rfl
@[simp] theorem State.handed_le (s : State) (i : Instr) : (s.handed i).le = s.le := rfl
@[simp] theorem State.handed_lm (s : State) (i : Instr) : (s.handed i).lm = s.lm := rfl
@[simp] theorem State.handed_se (s : State) (i : Instr) : (s.handed i).se = s.se := rfl
@[simp] theorem State.handed_ps (s : State) (i : Instr) : (s.handed i).ps = s.ps := rfl
@[simp] theorem State.handed_me (s : State) (i : Instr) : (s.handed i).me = s.me := rfl
@[simp] theorem State.handed_fu (s : State) (i : Instr) : (s.handed i).fu = s.fu := rfl

@[simp] theorem State.handed_mp_rate (s : State) (i : Instr) : (s.handed i).mp.rate = s.mp.rate :=
  by
  show (s.mp.dropTaken i).rate = _; rw [Port.dropTaken_eq]
@[simp] theorem State.handed_mp_rx (s : State) (i : Instr) : (s.handed i).mp.rx = s.mp.rx :=
  by
  show (s.mp.dropTaken i).rx = _; rw [Port.dropTaken_eq]
@[simp] theorem State.handed_mp_taking (s : State) (i : Instr) : (s.handed i).mp.taking = s.mp.taking :=
  by
  show (s.mp.dropTaken i).taking = _; rw [Port.dropTaken_eq]
@[simp] theorem State.handed_mp_replies (s : State) (i : Instr) : (s.handed i).mp.replies = s.mp.replies :=
  by
  show (s.mp.dropTaken i).replies = _; rw [Port.dropTaken_eq]
@[simp] theorem State.handed_mp_owed (s : State) (i : Instr) : (s.handed i).mp.owed = s.mp.owed :=
  by
  show (s.mp.dropTaken i).owed = _; rw [Port.dropTaken_eq]
@[simp] theorem State.handed_mp_notices (s : State) (i : Instr) : (s.handed i).mp.notices = s.mp.notices :=
  by
  show (s.mp.dropTaken i).notices = _; rw [Port.dropTaken_eq]
@[simp] theorem State.handed_mp_seq (s : State) (i : Instr) : (s.handed i).mp.seq = s.mp.seq :=
  by
  show (s.mp.dropTaken i).seq = _; rw [Port.dropTaken_eq]
@[simp] theorem State.handed_mp_badFrames (s : State) (i : Instr) : (s.handed i).mp.badFrames = s.mp.badFrames :=
  by
  show (s.mp.dropTaken i).badFrames = _; rw [Port.dropTaken_eq]
@[simp] theorem State.handed_mp_noticeOverflow (s : State) (i : Instr) : (s.handed i).mp.noticeOverflow = s.mp.noticeOverflow :=
  by
  show (s.mp.dropTaken i).noticeOverflow = _; rw [Port.dropTaken_eq]
@[simp] theorem State.handed_mp_tx (s : State) (i : Instr) : (s.handed i).mp.tx = s.mp.tx :=
  by
  show (s.mp.dropTaken i).tx = _; rw [Port.dropTaken_eq]
@[simp] theorem State.handed_mp_hold (s : State) (i : Instr) : (s.handed i).mp.hold = s.mp.hold :=
  by
  show (s.mp.dropTaken i).hold = _; rw [Port.dropTaken_eq]
@[simp] theorem State.handed_mp_startUp (s : State) (i : Instr) : (s.handed i).mp.startUp = s.mp.startUp :=
  by
  show (s.mp.dropTaken i).startUp = _; rw [Port.dropTaken_eq]
@[simp] theorem State.handed_mp_pinAsserted (s : State) (i : Instr) : (s.handed i).mp.pinAsserted = s.mp.pinAsserted :=
  by
  show (s.mp.dropTaken i).pinAsserted = _; rw [Port.dropTaken_eq]
@[simp] theorem State.handed_mp_warm (s : State) (i : Instr) : (s.handed i).mp.warm = s.mp.warm :=
  by
  show (s.mp.dropTaken i).warm = _; rw [Port.dropTaken_eq]

@[simp] theorem State.replied_pending (s : State) (i : Instr) (r : Result) (fs : List Fld) :
    (s.replied i r fs).pending = s.pending := rfl

/-! ### Changes of many records -/

/-- Work done for each feed with a property writes each of them once. -/
theorem eachWork_fst {α : Type} (l : List α) (g : α → State → Worked) (s : State) :
    (eachWork l g s).1 = l.foldl (fun s a => (g a s).1) s := by
  suffices ∀ w : Worked, (l.foldl (fun w a => thenWork w (g a)) w).1 = l.foldl (fun s a => (g a s).1) w.1 from this (s, [])
  induction l with
  | nil => exact fun _ => rfl
  | cons a l ih => exact fun w => ih _

end Sys2Proof.Machine
end

