-- ==== Sys2Proof/Laws/Migration.lean ====
section
/-! SUPPORT. What the Migration Engine leaves: the view `State.calm`, whole, under start passes and removals, and under the
link-down report what `State.chainLost` says. -/

namespace Sys2Proof.Machine

/-- States that agree in the view `still` agree in `calm`. -/
theorem State.calm_of_still {s t : State} (e : s.still = t.still) : s.calm = t.calm := by
  have v : ∀ x : State, x.calm = { x.still with me := { homes := x.still.me.homes, params := x.still.me.params } } := fun _ => rfl
  rw [v, v, e]

theorem settle_calm (w : Worked) : (settle w).calm = w.1.calm := State.calm_of_still (settle_still w)

theorem State.calm_post (s : State) (k : NoticeKind) (fs : List Fld) : (s.post k fs).calm = s.calm :=
  State.calm_of_still (State.still_post s k fs)

/-- A change of the Migration Engine that keeps homes and parameters. -/
theorem State.calm_updMe {s : State} {g : MigrationEngine → MigrationEngine} (hh : (g s.me).homes = s.me.homes)
    (hp : (g s.me).params = s.me.params) : (s.updMe g).calm = s.calm := by
  simp only [State.calm, State.still, State.updMe, hh, hp]

theorem State.calm_setQueue (s : State) (q : List QueueEntry) : (s.setQueue q).calm = s.calm := State.calm_updMe rfl rfl

theorem State.calm_enqueue (s : State) (u : UnitId) (t : Home) (src : MoveSource) (f : Bool) :
    (s.enqueue u t src f).calm = s.calm := State.calm_updMe rfl rfl

theorem State.calm_setBlend (s : State) (u : UnitId) (b : Option Blend) : (s.setBlend u b).calm = s.calm := rfl

theorem State.calm_entryDropped (s : State) (r : MoveReason) (d : Nat) (e : QueueEntry) :
    (s.entryDropped r d e).calm = s.calm := State.calm_post ..

theorem State.calm_blendNotice (s : State) (u : UnitId) (b : Blend) (ev : MoveEvent) (r : Option MoveReason) (d : Nat) :
    (s.blendNotice u b ev r d).calm = s.calm := State.calm_post ..

/-- Removed entries change the queue, the retry timer and the notices alone. -/
theorem State.calm_removeEntries (s : State) (sel : QueueEntry → Bool) (r : MoveReason) :
    (s.removeEntries sel r).calm = s.calm := by
  unfold State.removeEntries
  suffices ∀ (l : List QueueEntry) (t : State), (l.foldl (fun s e => s.entryDropped r 0 e) t).calm = t.calm from
    (this _ _).trans (State.calm_setQueue _ _)
  intro l
  induction l with
  | nil => exact fun _ => rfl
  | cons e l ih => exact fun t => (ih _).trans (State.calm_entryDropped _ _ _ _)

theorem applyJudgment_calm (e : QueueEntry) (rest : List QueueEntry) (j : Judgment) (s : State) :
    (applyJudgment e rest j s).1.calm = s.calm := by
  cases j with
  | drop r d => exact (State.calm_entryDropped _ _ _ _).trans (State.calm_setQueue _ _)
  | defer => exact State.calm_setQueue _ _
  | start =>
    exact (State.calm_blendNotice _ _ _ _ _ _).trans ((State.calm_setBlend _ _ _).trans (State.calm_setQueue _ _))

theorem passLoop_calm (n : Nat) : ∀ (deferred : List UnitId) (w : Worked), (passLoop n deferred w).1.1.calm = w.1.calm := by
  induction n with
  | zero => exact fun _ _ => rfl
  | succ n ih =>
    intro deferred w
    unfold passLoop
    split
    · rfl
    · split
      · rfl
      · exact (ih _ _).trans (applyJudgment_calm _ _ _ _)

/-- A start pass changes queue, retry timer, blend records and notices alone. -/
theorem startPass_calm (s : State) : (startPass s).1.calm = s.calm := by
  unfold startPass; dsimp only
  split
  · exact passLoop_calm _ _ _
  · exact (State.calm_updMe rfl rfl).trans (passLoop_calm _ _ _)

theorem State.calm_setHome_self (s : State) (u : UnitId) : (s.setHome u (s.home u)).calm = s.calm := by
  have : s.me.homes.upd u (fun _ => s.home u) = s.me.homes := by
    apply Tbl.ext
    intro j
    rw [Tbl.get_upd]
    split
    · next h => rw [h]
    · rfl
  simp only [State.calm, State.still, State.setHome, this]

/-- A blend that ends with the home it began with leaves the view alone. -/
theorem endBlend_calm (u : UnitId) (b : Blend) (ev : MoveEvent) (r : Option MoveReason) (s : State) :
    (endBlend u b (s.home u) ev r s).1.calm = s.calm := by
  unfold endBlend; dsimp only
  rw [State.calm_setBlend]
  exact (State.calm_setHome_self (s.blendNotice u b ev r 0) u).trans (State.calm_blendNotice _ _ _ _ _ _)

theorem dropBlend_calm (u : UnitId) (b : Blend) (s : State) : (dropBlend u b s).1.calm = s.calm :=
  (startPass_calm _).trans (endBlend_calm _ _ _ _ _)

theorem revertBlend_calm (u : UnitId) (b : Blend) (s : State) : (revertBlend u b s).1.calm = s.calm :=
  (startPass_calm _).trans (endBlend_calm _ _ _ _ _)

theorem reverseBlend_calm (u : UnitId) (b : Blend) (r : MoveReason) (s : State) : (reverseBlend u b r s).1.calm = s.calm := by
  unfold reverseBlend; dsimp only [thenWork]
  split
  · exact (revertBlend_calm _ _ _).trans ((State.calm_blendNotice _ _ _ _ _ _).trans (State.calm_setBlend _ _ _))
  · exact (State.calm_blendNotice _ _ _ _ _ _).trans (State.calm_setBlend _ _ _)

theorem leaveServing_calm (u : UnitId) (s : State) : (leaveServing u s).1.calm = s.calm := by
  unfold leaveServing
  split
  · exact dropBlend_calm _ _ _
  · rfl

theorem State.reconcileOne_calm (s : State) (u : UnitId) : (s.reconcileOne u).calm = s.calm := by
  unfold State.reconcileOne
  split
  · exact State.calm_enqueue _ _ _ _ _
  · rfl

theorem enterServing_calm (u : UnitId) (s : State) : (enterServing u s).1.calm = s.calm := by
  unfold enterServing; dsimp only
  split
  · exact State.reconcileOne_calm _ _
  · exact (startPass_calm _).trans (State.reconcileOne_calm _ _)

theorem State.calm_loseIf (s : State) (us : List UnitId) (c : Prop) [Decidable c] (l : List Work) :
    (if c then (s.loseEntries us, l) else (s, l)).1.calm = s.calm := by
  split
  · exact State.calm_removeEntries _ _ _
  · rfl

/-- A unit that leaves SERVING is measured no more; any other change of state moves migrations alone. -/
theorem unitLeft_calm (u : UnitId) (was : UnitState) (s : State) :
    (unitLeft u was s).1.calm =
      (if was = .serving then s.updMeasure u fun m => { m with measuring := false } else s).calm := by
  unfold unitLeft; dsimp only
  split
  · exact leaveServing_calm _ _
  · rfl

/-- Where the state is as it was, nothing happens. -/
theorem unitChanged_same {u : UnitId} {was : UnitState} {s : State} (h : (s.unit u).state = was) :
    unitChanged u was s = (s, []) := by
  simp [unitChanged, h]

/-- A unit that leaves SERVING is measured no more; else its change moves migrations alone. -/
theorem unitChanged_left {u : UnitId} {s : State} (h : (s.unit u).state ≠ .serving) :
    (unitChanged u .serving s).1.calm = (s.updMeasure u fun m => { m with measuring := false }).calm := by
  unfold unitChanged; dsimp only
  rw [if_neg h, if_neg h]
  exact (State.calm_loseIf _ _ _ _).trans ((unitLeft_calm _ _ _).trans (by rw [if_pos rfl]))

/-- A unit that was not SERVING changes its state: migrations alone move. -/
theorem unitChanged_calm {u : UnitId} {was : UnitState} {s : State} (h : was ≠ .serving) :
    (unitChanged u was s).1.calm = s.calm := by
  unfold unitChanged; dsimp only
  have left : (unitLeft u was s).1.calm = s.calm := (unitLeft_calm _ _ _).trans (by rw [if_neg h])
  split
  · rfl
  · split
    · exact (enterServing_calm _ _).trans ((State.calm_loseIf _ _ _ _).trans left)
    · exact (State.calm_loseIf _ _ _ _).trans left

/-! ### Writing many records -/

theorem nodup_indices : (indices 32).Nodup := by decide +kernel

/-- Feeds taken one by one from a list without repeats change as if all at once. -/
theorem State.foldl_updFeed (p : FeedId → Bool) (g : FeedRec → FeedRec) (s : State) :
    ((indices 32).filter p).foldl (fun s f => s.updFeed f g) s = s.mapFeeds p g := by
  have gen : ∀ (l : List FeedId), l.Nodup → ∀ s : State,
      l.foldl (fun s f => s.updFeed f g) s = s.mapFeeds (fun f => decide (f ∈ l)) g := by
    intro l
    induction l with
    | nil =>
      intro _ s
      have : (Tbl.make fun f => s.feed f) = s.tu.feeds := Tbl.ext fun i => Tbl.get_make _ i
      simp only [List.foldl_nil, State.mapFeeds, List.not_mem_nil, decide_false, Bool.false_eq_true, if_false, this]
    | cons a l ih =>
      intro h s
      have hn : a ∉ l := (List.nodup_cons.mp h).1
      rw [List.foldl_cons, ih (List.nodup_cons.mp h).2]
      simp only [State.mapFeeds, State.updFeed]
      have : (Tbl.make fun f => if decide (f ∈ l) = true then g (Vector.get (s.tu.feeds.upd a g) f)
          else Vector.get (s.tu.feeds.upd a g) f) =
          Tbl.make fun f => if decide (f ∈ a :: l) = true then g (Vector.get s.tu.feeds f) else Vector.get s.tu.feeds f := by
        apply Tbl.ext
        intro j
        rw [Tbl.get_make, Tbl.get_make, Tbl.get_upd]
        by_cases e : j = a
        · subst e; simp [hn]
        · simp [e]
      simp only [State.feed, this]
  rw [gen _ (nodup_indices.filter _)]
  have same : (fun f => decide (f ∈ (indices 32).filter p)) = p := by
    funext f
    simp [mem_indices]
  rw [same]

/-- A mute reason written on each feed with a property. -/
theorem eachWork_muteFeed (p : FeedId → Bool) (g : FeedMutes → FeedMutes) (s : State) :
    (eachWork ((indices 32).filter p) (fun f => muteFeed f g) s).1 = s.mapFeeds p fun r => { r with mutes := g r.mutes } :=
  (eachWork_fst _ _ _).trans (State.foldl_updFeed _ _ _)

end Sys2Proof.Machine
end

