-- ==== Sys2Proof/Laws/PerInstr.lean ====
section
/-! SUPPORT. One lemma per command on its shape: the body that carries a request begins with its kind octet, tag and issuer
(spec/10 R201, R206), and no frame carries an event. -/

namespace Sys2Proof.Laws.Shape

open Sys2Proof.Machine

/-- The body of the command begins with the header of its kind; a command without a kind has no body. -/
def Statement (i : Instr) : Prop := (encodeBody i).map (·.take 4) = (kindOf i).map fun hk => writeHdr hk.2 hk.1

theorem operatorSet (h : Hdr) (op : Nat) (state : Option OperatorState) (label : List Octet) (nc gl : Nat) :
    Statement (.operatorSet h op state label nc gl) := rfl
theorem operatorRead (h : Hdr) (sel : NumSel) : Statement (.operatorRead h sel) := rfl
theorem bandSet (h : Hdr) (slot : Nat) (window : Option Window) :
    Statement (.bandSet h slot window) := by cases window <;> rfl
theorem bandRead (h : Hdr) : Statement (.bandRead h) := rfl
theorem licenceSet (h : Hdr) (op slot : Nat) (blocks : BitVec 32) : Statement (.licenceSet h op slot blocks) := rfl
theorem feedDefine (h : Hdr) (feed op slot first count port lane : Nat) :
    Statement (.feedDefine h feed op slot first count port lane) := rfl
theorem feedEnableOn (h : Hdr) (feed : Nat) : Statement (.feedEnableOn h feed) := rfl
theorem feedEnableOff (h : Hdr) (feed : Nat) : Statement (.feedEnableOff h feed) := rfl
theorem feedMuteOn (h : Hdr) (feed : Nat) : Statement (.feedMuteOn h feed) := rfl
theorem feedMuteOff (h : Hdr) (feed : Nat) : Statement (.feedMuteOff h feed) := rfl
theorem feedRelease (h : Hdr) (feed : Nat) : Statement (.feedRelease h feed) := rfl
theorem feedRead (h : Hdr) (sel : NumSel) : Statement (.feedRead h sel) := rfl
theorem lockInputChange (port : PortId) (high : Bool) : Statement (.lockInputChange port high) := rfl
theorem donorPortLocked (port : PortId) : Statement (.donorPortLocked port) := rfl
theorem donorPortUnlocked (port : PortId) : Statement (.donorPortUnlocked port) := rfl
theorem zoneDefineOn (h : Hdr) (zone : Nat) (label : List Octet) : Statement (.zoneDefineOn h zone label) := rfl
theorem zoneDefineOff (h : Hdr) (zone : Nat) : Statement (.zoneDefineOff h zone) := rfl
theorem zoneRead (h : Hdr) (sel : NumSel) : Statement (.zoneRead h sel) := rfl
theorem routeAdd (h : Hdr) (feed zone : Nat) (level : Int) (uplink : Option (Option Bool)) :
    Statement (.routeAdd h feed zone level uplink) := rfl
theorem routeLevel (h : Hdr) (feed zone : Nat) (level : Int) (uplink : Option (Option Bool)) :
    Statement (.routeLevel h feed zone level uplink) := rfl
theorem routeRemove (h : Hdr) (feed zone : Nat) : Statement (.routeRemove h feed zone) := rfl
theorem routeRead (h : Hdr) (sel : RouteSel) : Statement (.routeRead h sel) := by cases sel <;> rfl
theorem linkEnable (h : Hdr) (link : Nat) : Statement (.linkEnable h link) := rfl
theorem linkDisable (h : Hdr) (link : Nat) : Statement (.linkDisable h link) := rfl
theorem linkRestart (h : Hdr) (link : Nat) : Statement (.linkRestart h link) := rfl
theorem linkLoopbackOn (h : Hdr) (link : Nat) : Statement (.linkLoopbackOn h link) := rfl
theorem linkLoopbackOff (h : Hdr) (link : Nat) : Statement (.linkLoopbackOff h link) := rfl
theorem linkRead (h : Hdr) (sel : NumSel) : Statement (.linkRead h sel) := rfl
theorem preambleEnd (link : LinkId) : Statement (.preambleEnd link) := rfl
theorem markerReceived (link : LinkId) (m : Marker) : Statement (.markerReceived link m) := rfl
theorem loopbackTestWord (link : LinkId) (word : Word) : Statement (.loopbackTestWord link word) := rfl
theorem alignmentTimerExpiry (link : LinkId) : Statement (.alignmentTimerExpiry link) := rfl
theorem noiseWindowExpiry (link : LinkId) : Statement (.noiseWindowExpiry link) := rfl
theorem numberWordReturn (link : LinkId) (wordLink gen count : Nat) :
    Statement (.numberWordReturn link wordLink gen count) := rfl
theorem numberTimeout (link : LinkId) : Statement (.numberTimeout link) := rfl
theorem transactionStart (link : LinkId) : Statement (.transactionStart link) := rfl
theorem requestWordSent (link : LinkId) : Statement (.requestWordSent link) := rfl
theorem echoReceived (link : LinkId) (word : CtrlWord) : Statement (.echoReceived link word) := rfl
theorem replyWordReceived (link : LinkId) (word : ReplyWord) : Statement (.replyWordReceived link word) := rfl
theorem replyWindowExpiry (link : LinkId) : Statement (.replyWindowExpiry link) := rfl
theorem nextAttempt (link : LinkId) : Statement (.nextAttempt link) := rfl
theorem pollTimerExpiry (unit : UnitId) : Statement (.pollTimerExpiry unit) := rfl
theorem pollSet (h : Hdr) (interval : Nat) : Statement (.pollSet h interval) := rfl
theorem unitSet (h : Hdr) (unit : UnitRef) (atten : Option Nat) (threshold : Option Int) (eligible : Option (BitVec 32)) :
    Statement (.unitSet h unit atten threshold eligible) := rfl
theorem unitMuteOn (h : Hdr) (unit : UnitRef) : Statement (.unitMuteOn h unit) := rfl
theorem unitMuteOff (h : Hdr) (unit : UnitRef) : Statement (.unitMuteOff h unit) := rfl
theorem unitRelay (h : Hdr) (link : Nat) (pos : NumSel) (payload : List Word) :
    Statement (.unitRelay h link pos payload) := rfl
theorem unitRead (h : Hdr) (sel : UnitSel) : Statement (.unitRead h sel) := by cases sel <;> rfl
theorem combinerSample (feed : FeedId) (samples : List IQ) : Statement (.combinerSample feed samples) := rfl
theorem mixerSample (unit : UnitId) (samples : List IQ) : Statement (.mixerSample unit samples) := rfl
theorem levelSet (h : Hdr) (limit : Nat) : Statement (.levelSet h limit) := rfl
theorem levelRead (h : Hdr) (sel : LevelSel) : Statement (.levelRead h sel) := by cases sel <;> rfl
theorem busyWindowEnd (unit : UnitId) (window : BusyWindow) : Statement (.busyWindowEnd unit window) := rfl
theorem evaluationPeriodExpiry : Statement .evaluationPeriodExpiry := rfl
theorem loadSet (h : Hdr) (period shift : Option Nat) : Statement (.loadSet h period shift) := rfl
theorem loadRead (h : Hdr) (sel : LoadSel) : Statement (.loadRead h sel) := by cases sel <;> rfl
theorem hotZoneRound : Statement .hotZoneRound := rfl
theorem balanceTimerExpiry : Statement .balanceTimerExpiry := rfl
theorem planWrite (h : Hdr) (bank : Nat) (mode : Option (Option PlanMode)) (homes : Option (List (UnitRef × Nat))) (marks : Option (List MarkEntry)) :
    Statement (.planWrite h bank mode homes marks) := rfl
theorem planRead (h : Hdr) (sel : NumSel) : Statement (.planRead h sel) := rfl
theorem planSelect (h : Hdr) (bank : Nat) : Statement (.planSelect h bank) := rfl
theorem planSelectNone (h : Hdr) : Statement (.planSelectNone h) := rfl
theorem zoneHold (h : Hdr) (zone : Nat) : Statement (.zoneHold h zone) := rfl
theorem zoneRelease (h : Hdr) (zone : Nat) : Statement (.zoneRelease h zone) := rfl
theorem move (h : Hdr) (unit : UnitRef) (target : Nat) (force : Option Bool) : Statement (.move h unit target force) := rfl
theorem moveAbort (h : Hdr) (unit : UnitRef) : Statement (.moveAbort h unit) := rfl
theorem spreadSet (h : Hdr) (auto : Option (Option Bool)) (conc depth step balance : Option Nat) :
    Statement (.spreadSet h auto conc depth step balance) := rfl
theorem queueRead (h : Hdr) : Statement (.queueRead h) := rfl
theorem retryTimerExpiry : Statement .retryTimerExpiry := rfl
theorem blendStepExpiry (unit : UnitId) : Statement (.blendStepExpiry unit) := rfl
theorem faultPolicy (h : Hdr) (kind : NumSel) (notify mute latch : Option Bool) :
    Statement (.faultPolicy h kind notify mute latch) := rfl
theorem faultPolicyDefaults (h : Hdr) (kind : NumSel) : Statement (.faultPolicyDefaults h kind) := rfl
theorem faultAck (h : Hdr) (name : FaultName) : Statement (.faultAck h name) := rfl
theorem faultClear (h : Hdr) (name : FaultName) : Statement (.faultClear h name) := rfl
theorem faultRead (h : Hdr) (sel : FaultSel) : Statement (.faultRead h sel) := by cases sel <;> rfl
theorem characterReceived (c : RxChar) : Statement (.characterReceived c) := rfl
theorem breakDetected : Statement .breakDetected := rfl
theorem badKindRequest (h : Hdr) (kind : Nat) : Statement (.badKindRequest h kind) := rfl
theorem frameTransmitStart : Statement .frameTransmitStart := rfl
theorem frameTransmitEnd : Statement .frameTransmitEnd := rfl
theorem holdInputChange (asserted : Bool) : Statement (.holdInputChange asserted) := rfl
theorem status (h : Hdr) : Statement (.status h) := rfl
theorem ident (h : Hdr) : Statement (.ident h) := rfl
theorem reset (h : Hdr) (warm : Bool) : Statement (.reset h warm) := rfl
theorem warmReset : Statement .warmReset := rfl
theorem coldReset (strap1 strap0 : Bool) : Statement (.coldReset strap1 strap0) := rfl
theorem startUpEnd : Statement .startUpEnd := rfl
theorem runClockTick : Statement .runClockTick := rfl
theorem resetPinAsserted : Statement .resetPinAsserted := rfl

end Sys2Proof.Laws.Shape
end

