-- ==== Sys2Proof/Tests/Slice0.lean ====
section
/-! SUPPORT. Tests: ill-formed terms refused, bodies written out from the tables of spec/10, figures of the worked cases of
spec/, and for each statement with hypotheses a witness of each clause, at a boundary of its range where it has one. -/

namespace Sys2Proof.Tests

open Sys2Proof.Machine

-- One theorem after the other: each kernel evaluation takes a thread with a stack of its own.
set_option Elab.async false

/-! ### States -/

/-- The venue's header. -/
def venue : Hdr := { tag := 1, issuer := 0 }

/-- The part once start-up has ended. -/
def ready : State :=
  (State.reset.updMp fun m => { m with startUp := false, taking := true }).updLm fun m => { m with timer := some 1000 }

/-- Operator 8 is ACTIVE, slot 7 present and wholly licensed to it. -/
def tenant : State :=
  (ready.updOp 7 fun r => { r with state := .active, licence := Vector.replicate 8 0xFFFFFFFF }).setBand 7 (some ⟨1800, -95⟩)

/-- Feed 31 of operator 8, in a state, on port 7 and lane 3. -/
def leased (st : FeedState) : State :=
  tenant.updFeed 31 fun r =>
    { r with state := st, operator := some 7, slot := 7, firstBlock := 28, blockCount := 4, port := 7, lane := 3 }

/-- Zone 24 is defined, and feed 31 routed to it in way 0 of its set. -/
def routed : State :=
  ((leased .enabled).updZone 23 fun _ => ⟨true, []⟩).updSet 7 fun _ => { way0 := some ⟨31, 23, 330, true⟩ }

/-- Link 11 in a state. -/
def linked (st : LinkState) : State := ready.updLink 11 fun r => { r with state := st, generation := 15 }

/-- Unit 11.4, index 47, SERVING on a RUNNING link. -/
def serving : State :=
  (linked .running).updUnit 47 fun r =>
    { r with state := .serving, identity := some ⟨254, 1, 400, [(100, 7000)]⟩, configured := some 0, pollTimer := some 1 }

/-- A transaction outstanding on link 11. -/
def asking (x : Txn) : State := serving.updArbiter 11 fun a => { a with txn := some x }

/-- A poll of unit 11.4 in its last attempt, its window running. -/
def polling : Txn :=
  { requester := .poll, kind := .status, target := some 3, data := [], attempt := 4, sent := 1, echoed := 1, window := some 1 }

/-- Zones 1 and 24 defined, unit 47 SERVING at home in zone 1, the active plan SEED. -/
def housed : State :=
  ((serving.updZone 0 fun _ => ⟨true, []⟩).updZone 23 fun _ => ⟨true, []⟩).setHome 47 (some 0)

/-- A blend of unit 47 from zone 1 to zone 24. -/
def blending (p : Nat) (reverse : Bool) (source : MoveSource) : State :=
  housed.setBlend 47 (some { target := some 23, p := p, depth := 4, step := 20, reverse := reverse, source := source, timer := 1 })

/-- A queued move of unit 47 from zone 1 to zone 24. -/
def queued (source : MoveSource) (deferrals : Nat) : State :=
  housed.updMe fun m => { m with retry := some 1, queue := [⟨47, some 0, some 23, source, false, deferrals, 0⟩] }

/-- What a command leads to. -/
def after (i : Instr) (s : State) : State :=
  match exec i s with
  | .next t => t
  | _ => s

/-- Result and fields of the last reply. -/
def answer (s : State) : Option (Result × List Fld) := s.mp.replies.getLast?.map fun r => (r.result, r.fields)

/-- A state in which every block has something in hand: a radiating feed with a route, a unit that blends back, muted and latched
for an alarm in the log with its mixer's one term, a queued move. -/
def lively : State :=
  let s := (blending 1 true .auto).updUnit 47 fun r =>
    { r with mask := 0x80, wanted := 0x80, configured := some 0x80, view := { vswr := true },
             mutes := { faultAction := true, faultLatch := true } }
  let s :=
    { s with
      pending := [.runClockTick]
      tu := routed.tu
      rt := { s.rt with sets := routed.rt.sets }
      me := { s.me with retry := some 1, queue := [⟨0, none, some 23, .auto, false, 3, 0⟩] }
      fu := { s.fu with
        log := [{ newEntry .unitVswr (.unit 47) .active 0 0 with latch := true }], actions := [⟨.unitVswr, .unit 47, false⟩] } }
  (s.updMonitor 7 fun m => { m with locked := true, lockInput := true }).updMixer 47 fun _ =>
    { terms := [⟨31, 23, 300, 1000000, 20, false⟩], composite := 1000000, smax := 10000000 }

/-! ### Ill-formed commands are refused -/

theorem test_wf_refuses_operands :
    Instr.wf (.status { tag := 0, issuer := 256 }) = false ∧ Instr.wf (.ident { tag := 0, issuer := 0, lengthOk := false }) = false ∧
    Instr.wf (.bandRead { tag := 0, issuer := 0, formOk := false }) = false ∧
    Instr.wf (.operatorSet venue 256 none [] 0 0) = false ∧ Instr.wf (.operatorSet venue 1 none [] 65536 0) = false ∧
    Instr.wf (.operatorRead venue (.one 255)) = false ∧ Instr.wf (.bandSet venue 0 (some ⟨65536, 0⟩)) = false ∧
    Instr.wf (.bandSet venue 0 (some ⟨0, 32768⟩)) = false ∧ Instr.wf (.licenceSet venue 1 256 0) = false ∧
    Instr.wf (.feedDefine venue 0 0 0 0 0 0 256) = false ∧ Instr.wf (.feedRelease venue 256) = false ∧
    Instr.wf (.zoneDefineOn venue 0 (List.replicate 256 65)) = false ∧ Instr.wf (.routeAdd venue 0 0 (-32769) none) = false ∧
    Instr.wf (.routeRemove venue 0 256) = false ∧ Instr.wf (.routeRead venue (.key 256 0)) = false := by decide +kernel

theorem test_wf_refuses_selectors :
    Instr.wf (.pollSet venue 65536) = false ∧ Instr.wf (.unitSet venue (.lp 254 1) none none none) = false ∧
    Instr.wf (.unitSet venue (.index 0) (some 65536) none none) = false ∧ Instr.wf (.moveAbort venue (.index 256)) = false ∧
    Instr.wf (.unitRelay venue 0 .all (List.replicate 256 0)) = false ∧ Instr.wf (.unitRead venue (.link 256)) = false ∧
    Instr.wf (.levelRead venue (.feed 256)) = false ∧ Instr.wf (.loadSet venue (some 65536) none) = false ∧
    Instr.wf (.loadRead venue (.zone 256)) = false ∧ Instr.wf (.planWrite venue 0 none (some [(.index 0, 256)]) none) = false ∧
    Instr.wf (.planWrite venue 0 none none (some [⟨0, 65536, 0, 0, 0, none⟩])) = false ∧
    Instr.wf (.planSelect venue 254) = false ∧ Instr.wf (.move venue (.index 0) 256 none) = false ∧
    Instr.wf (.spreadSet venue none (some 65536) none none none) = false ∧
    Instr.wf (.faultPolicy venue (.one 255) none none none) = false ∧ Instr.wf (.faultAck venue (.one 0 256)) = false ∧
    Instr.wf (.faultRead venue (.source none 256)) = false ∧ Instr.wf (.badKindRequest venue 0x2E) = false := by decide +kernel

theorem test_wf_refuses_words :
    Instr.wf (.numberWordReturn 0 12 0 0) = false ∧ Instr.wf (.echoReceived 0 (.reqHeader 0 (some 5) 0 1 .ident 0)) = false ∧
    Instr.wf (.replyWordReceived 0 ⟨1, 16, 1, .header false 0⟩) = false ∧
    Instr.wf (.replyWordReceived 0 ⟨1, 0, 1, .data (.status {} 128)⟩) = false ∧ Instr.wf (.combinerSample 0 []) = false ∧
    Instr.wf (.mixerSample 0 []) = false ∧ Instr.wf (.busyWindowEnd 0 ⟨[[]], []⟩) = false ∧ Instr.wf (.busyWindowEnd 0 ⟨[], []⟩) = false ∧
    Instr.wf (.busyWindowEnd 0 ⟨[List.replicate 8 ⟨0, 0⟩], [2]⟩) = false ∧
    Instr.wf (.echoReceived 0 (.reqData 16 (.word 0))) = false ∧
    Instr.wf (.characterReceived (.sampled [])) = false := by decide +kernel

/-! ### Bodies written out from R201, R202 and R206 -/

theorem test_decode_tenancy :
    decodeBody [0x01, 0, 1, 0, 8, 1, 2, 0x41, 0x42, 0, 120, 0, 63] = .operatorSet venue 8 (some .active) [0x41, 0x42] 120 63 ∧
    decodeBody [0x03, 0, 1, 0, 7, 1, 0x07, 0x08, 0xFF, 0xA1] = .bandSet venue 7 (some ⟨1800, -95⟩) ∧
    decodeBody [0x07, 0, 1, 8, 1, 31] = .feedEnableOff { tag := 1, issuer := 8 } 31 ∧
    decodeBody [0x08, 0, 1, 8, 31, 1] = .feedMuteOff { tag := 1, issuer := 8 } 31 ∧
    decodeBody [0x02, 0, 1, 0, 0xFF] = .operatorRead venue .all := by decide +kernel

theorem test_decode_zones_links_units :
    decodeBody [0x0B, 0, 1, 0, 0, 24, 1, 0x41] = .zoneDefineOn venue 24 [0x41] ∧
    decodeBody [0x10, 0, 1, 0, 3, 63] = .routeRead venue (.set 63) ∧
    decodeBody [0x14, 0, 1, 0, 0, 11] = .linkLoopbackOn venue 11 ∧
    decodeBody [0x17, 0, 1, 0, 11, 4, 1, 0, 63, 1, 0xFC, 0x7C, 0] =
      .unitSet venue (.lp 11 4) (some 63) (some (-900)) none ∧
    decodeBody [0x19, 0, 1, 0, 11, 0xFF, 1, 1, 2, 3, 4] = .unitRelay venue 11 .all [0x01020304] := by decide +kernel

theorem test_decode_load_plans_faults :
    decodeBody [0x1D, 0, 1, 0, 0, 1, 0, 7] = .loadSet venue none (some 7) ∧
    decodeBody [0x1F, 0, 1, 0, 3, 1, 1, 1, 1, 0xFE, 47, 24, 0] =
      .planWrite venue 3 (some (some .seed)) (some [(.index 47, 24)]) none ∧
    decodeBody [0x21, 0, 1, 0, 0xFE] = .planSelectNone venue ∧
    decodeBody [0x26, 0, 1, 0, 1, 0, 1, 0, 8, 0, 0, 0] = .spreadSet venue (some (some true)) (some 8) none none none ∧
    decodeBody [0x28, 0, 1, 0, 21, 0, 0, 1, 1] = .faultPolicy venue (.one 21) (some true) (some false) (some false) ∧
    decodeBody [0x2B, 0, 1, 0, 3, 8, 47] = .faultRead venue (.kindSource 8 47) ∧
    decodeBody [0x2E, 0, 1, 0, 0] = .reset venue true := by decide +kernel

/-- R5, R190: a form octet beyond its rule's forms leaves the feed, the zone and the bank that a request names. -/
theorem test_decode_bad_form :
    decodeBody [0x0D, 0, 1, 8, 31, 24, 0, 5, 2] = .routeAdd ⟨1, 8, true, false⟩ 31 24 5 none ∧
    decodeBody [0x0E, 0, 1, 8, 31, 24, 0, 5, 9] = .routeLevel ⟨1, 8, true, false⟩ 31 24 5 none ∧
    decodeBody [0x1F, 0, 1, 0, 3, 2] = .planWrite ⟨1, 0, true, false⟩ 3 none none none := by decide +kernel

/-! ### Figures of the worked cases -/

/-- Section 2.5: the keys that fall in set 43 and in set 44. -/
theorem test_set_index : setIndex 5 11 1 = 43 ∧ setIndex 13 7 1 = 43 ∧ setIndex 3 5 3 = 43 ∧ setIndex 6 11 1 = 44 := by
  decide +kernel

/-- Section 5.1.1: selected entries. -/
theorem test_table_entries :
    [weightW 1, weightW 40, weightW 127, weightQ 12, weightQ 40, thresholdT 39, thresholdT 100, scaleF 6, scaleF 40] =
      [30935, 3277, 22, 8231, 328, 80436, 327680, 32846, 655] := by decide +kernel

/-- Section 5.2.1: noise rise, group attenuation and the two samples. -/
theorem test_uplink_figures :
    noiseSum [0, 0, 6] = 81959 ∧ noiseRise 81959 = 40 ∧ requiredG 40 30 = 2 ∧ combine 89024800 2 = (2421, false) ∧
    combine 1774680000 2 = (32767, true) := by decide +kernel

/-- Section 5.3.1: power, backoff, base code, and the clamp. -/
theorem test_backoff_figures :
    powerOf 200 = 100000 ∧ powerOf 240 = 251189 ∧ backoffOf 300000 251189 = 2 ∧ baseCode 240 200 = 8 ∧ powerOf 330 = 1995262 ∧
    backoffOf 1995262 1000 = 40 ∧ powerExceeds 1995262 1000 = true ∧ baseCode 0 330 = 0 := by decide +kernel

/-- Section 3.10: the runs over frames 1 to 10. -/
theorem test_marker_runs :
    let r := [.differs 0, .differs 1, .differs 9, .allZero, .allZero, .differs 0, .allZero, .allZero, .allZero, .allZero].foldl
      LinkRec.classify ({} : LinkRec)
    (r.goodRun, r.badRun, r.zeroRun, r.noise) = (0, 4, 4, 1) := by decide +kernel

/-- Section 5.2.2: codes through origin and target of a blend of depth 12. -/
theorem test_blend_codes : uplinkCode 0 3 = 6 ∧ uplinkCode 0 (12 - 3) = 18 ∧ uplinkCode 63 60 = 127 := by decide +kernel

/-- R200: the CRC of generator 8005h, most significant bit first, from 0, over the octets 31h to 39h is FEE8h. -/
theorem test_crc_check : crcOf [0x31, 0x32, 0x33, 0x34, 0x35, 0x36, 0x37, 0x38, 0x39] = 0xFEE8 := by decide +kernel

/-- R186: a character whose samples 8, 9 and 10 of each bit period agree, and a start bit with one low sample of three. -/
theorem test_sampled_character :
    charOf (.sampled ((List.range 160).map fun i => 16 ≤ i && (i / 16) % 2 = 1)) = some (0x55, true) ∧
    charOf (.sampled ((List.range 160).map fun i => i ≠ 3)) = none := by decide +kernel

/-- R42, R43: a marker that differs in one bit is good, one that differs in two is bad. -/
theorem test_marker_good : markerGood (.differs 1) = true ∧ markerGood (.differs 2) = false ∧ markerGood .allZero = false := by
  decide +kernel

/-- R114: the estimate moves by the rounded eighth of the difference, and with k = 0 to the occupancy. -/
theorem test_smoothing : smooth 0 1000 3 = 125 ∧ smooth 1000 0 3 = 875 ∧ smooth 400 396 3 = 400 ∧ smooth 7 900 0 = 900 := by
  decide +kernel

/-- R111: full scale is 0, half the power −30, and no energy −999. -/
theorem test_window_power : windowPower (2 ^ 30) 1 = 0 ∧ windowPower (2 ^ 29) 1 = -30 ∧ windowPower 0 8 = -999 := by decide +kernel

/-- R71, R72: an identity record of one range is valid, and its band mask holds the slot whose window lies inside. -/
theorem test_identity :
    validIdentity [.typeCode 1, .serial 7, .power 400, .range 1700 2200] = some ⟨1, 7, 400, [(1700, 2200)]⟩ ∧
    validIdentity [.typeCode 255, .serial 7, .power 400, .range 1700 2200] = none ∧
    bandMask (some ⟨1, 7, 400, [(1800, 1960)]⟩) tenant.tu.bands = 0x80 ∧
    bandMask (some ⟨1, 7, 400, [(1801, 1961)]⟩) tenant.tu.bands = 0 := by decide +kernel

/-- R111, R112: the samples before a change of the set are composed with the old one. -/
theorem test_window_sets :
    windowEnergy (setAt 0 [1, 2] [1, 2]) (List.replicate 3 [⟨3, 4⟩, ⟨5, 12⟩]) = 25 + 169 ∧
    sampleEnergy 3 [⟨0x7FFF, 0x8000⟩, ⟨1, 0xFFFF⟩] = 32767 * 32767 + 32768 * 32768 := by decide +kernel

/-- R116: the dwell that reaches d changes the temperature, and the hysteresis ends it. -/
theorem test_temperature :
    LoadRec.judge ⟨8000, .normal, 4, 0⟩ {} = ⟨8000, .hot, 0, 0⟩ ∧ LoadRec.judge ⟨1000, .normal, 3, 0⟩ {} = ⟨1000, .normal, 0, 1⟩ ∧
    LoadRec.judge ⟨7500, .hot, 0, 0⟩ {} = ⟨7500, .normal, 0, 0⟩ ∧ LoadRec.judge ⟨1499, .cool, 0, 0⟩ {} = ⟨1499, .cool, 0, 0⟩ := by
  decide +kernel

/-! ### One command on a small state -/

theorem test_route_add :
    answer (after (.routeAdd venue 31 24 330 none) routed) = some (.done, [.o1 7, .o1 0, .o1 0]) ∧
    answer (after (.routeAdd venue 31 24 331 none) routed) = some (.badValue, []) := by decide +kernel

theorem test_issuer_checks :
    answer (after (.feedMuteOn { tag := 1, issuer := 7 } 31) (leased .defined)) = some (.notPermitted, []) ∧
    answer (after (.feedMuteOn { tag := 1, issuer := 8 } 31) (leased .defined)) = some (.done, []) ∧
    answer (after (.levelSet { tag := 1, issuer := 8 } 5) tenant) = some (.notPermitted, []) := by decide +kernel

theorem test_feed_mute_stops_radiating :
    (leased .enabled).radiates 31 = true ∧ (after (.feedMuteOn venue 31) (leased .enabled)).radiates 31 = false := by
  decide +kernel

theorem test_alignment_lost :
    let t := after (.markerReceived 11 .allZero) (serving.updLink 11 fun r => { r with badRun := 7, zeroRun := 7 })
    ((t.link 11).state, (t.unit 47).state, t.fu.log.map fun e => (e.kind, e.detail)) =
      (.aligning, .absent, [(.chainReset, 15)]) := by decide +kernel

/-- R37: what a link sends down its fibre as it comes up. -/
theorem test_downlink :
    (linked .off).downlink 11 = .noLight ∧ (linked .loopback).downlink 11 = .dark ∧
    (linked .preamble).downlink 11 = .frames (.idle 15) (List.replicate 4 ⟨0, 0⟩) ∧
    (after (.markerReceived 11 (.differs 0)) ((linked .aligning).updLink 11 fun r => { r with goodRun := 2 })).downlink 11 =
      .frames (.number 11 0 0) (List.replicate 4 ⟨0, 0⟩) ∧
    (after .runClockTick (after (.markerReceived 11 (.differs 0))
        ((linked .aligning).updLink 11 fun r => { r with goodRun := 2 }))).downlink 11 =
      .frames (.idle 0) (List.replicate 4 ⟨0, 0⟩) := by decide +kernel

/-- R53: a transaction start taken first makes the request LINK_BUSY, and a survey's gap does not. -/
theorem test_loopback_after_start :
    let due := serving.updUnit 47 fun r => { r with pollDue := true }
    answer (after (.linkLoopbackOn venue 11) (after (.transactionStart 11) due)) = some (.linkBusy, []) ∧
    answer (after (.linkLoopbackOn venue 11) due) = some (.done, []) := by decide +kernel

theorem test_silent_unit :
    let t := after (.replyWindowExpiry 11) ((asking polling).updUnit 47 fun r => { r with missCount := 2 })
    ((t.unit 47).state, (t.unit 47).view.silent, (t.arbiter 11).txn, t.fu.log.map fun e => (e.kind, e.detail)) =
      (.failed, true, none, [(.unitSilent, 2)]) := by decide +kernel

theorem test_move_starts :
    (after (.move venue (.index 47) 24 (some true)) housed).blend 47 =
      some { target := some 23, p := 0, depth := 12, step := 250, reverse := false, source := .venue, timer := 250 } := by
  decide +kernel

theorem test_blend_settles :
    let t := after (.blendStepExpiry 47) (blending 3 false .venue)
    (t.home 47, t.blend 47) = (some 23, none) := by decide +kernel

theorem test_reset_request :
    let t := after (.reset venue true) ready
    (t.mp.taking, t.mp.warm, answer t) = (false, .accepted, some (.done, [])) := by decide +kernel

theorem test_clock_wraps :
    (after .runClockTick (ready.updFu fun fu => { fu with clock := 0xFFFFFFFF })).fu.clock = 0 := by decide +kernel

/-! ### Witnesses: for each statement of the certificates with hypotheses, operands and a state that meet those of each clause -/

theorem test_witness_StepRunsFrontCommand :
    lively.pending = .runClockTick :: [] ∧ ready.pending = [] ∧ (ready.updMp fun m => { m with input := [[]] }).canTake = true ∧
    ready.mp.input = [] ∧ State.reset.canTake = false := ⟨rfl, by decide +kernel⟩

theorem test_witness_RequestChecksInOrder :
    (isKnown (.ident { venue with lengthOk := false }) = true ∧ ready.canTake = true) ∧
    (isKnown (.bandRead ⟨1, 8, true, true⟩) = true ∧ ready.admits ⟨1, 8, true, true⟩ (rightOf (.bandRead ⟨1, 8, true, true⟩)) = false) ∧
    (isKnown (.faultAck { venue with formOk := false } .all) = true ∧ ready.admits { venue with formOk := false } .venue = true ∧
      formFirst (.faultAck { venue with formOk := false } .all) = true) ∧
    (kindOf (.badKindRequest venue 0x2F)).isSome = true ∧ State.reset.canTake = false := by decide +kernel

theorem test_witness_RequestChecksInOrder_issuers :
    (8 : Nat) = opNum 7 ∧ (1 : Nat) = opNum 0 ∧ (tenant.op 7).state = .active ∧ (tenant.op 0).state ≠ .active ∧
    (leased .defined).belongs 7 31 = true ∧ (leased .defined).belongs 7 0 = false := by decide +kernel

theorem test_witness_DecodeOfEncode :
    (Instr.wf (.unitRelay venue 255 .all (List.replicate 255 0xFFFFFFFF)) = true ∧
      (encodeBody (.unitRelay venue 255 .all (List.replicate 255 0xFFFFFFFF))).isSome = true) ∧
    Instr.wf (.routeAdd venue 255 0 (-32768) none) = true ∧ (encodeBody (.routeAdd venue 255 0 (-32768) none)).isSome = true ∧
    Instr.wf (.planSelect venue 253) = true ∧ (encodeBody (.planSelect venue 253)).isSome = true := by decide +kernel

theorem test_witness_FrameIsReceived :
    (List.replicate 4 0xFF : List Octet).length = 4 ∧ (List.replicate 1020 0xFF : List Octet).length = 1020 ∧
    ready.mp.pinAsserted = false ∧ ready.mp.startUp = false ∧ ready.mp.rx.state = .hunt ∧ ready.mp.rx.area = [] ∧
    (ready.updMp fun m => { m with input := [[], [], []] }).mp.input.length < Config.inputCapacity := by decide +kernel

theorem test_witness_CharactersAndBreaks :
    ready.mp.pinAsserted = false ∧ ready.mp.startUp = false ∧ ready.mp.rx.state = .hunt ∧ (0xD2 : Octet) ≠ 0xD3 ∧
    (ready.updMp fun m => { m with badFrames := 65535, rx := { state := .check } }).mp.rx.state ≠ .hunt := by decide +kernel

/-- The receiver in a state, with an assembly area, and an input buffer of some entries. -/
def receiving (state : RxState) (area : List Octet) (waiting : Nat) : State :=
  ready.updMp fun m => { m with rx := { state := state, area := area }, input := List.replicate waiting [] }

theorem test_witness_CharactersAndBreaks_frames :
    (∀ x : Nat × Nat × Bool, x ∈ [(0, 0x03, false), (0, 0x04, true), (0x03, 0xFC, true), (0x03, 0xFD, false)] →
      let hi : Octet := BitVec.ofNat 8 x.1
      let n := 256 * hi.toNat + (BitVec.ofNat 8 x.2.1 : Octet).toNat
      let s := receiving .length [0xD3, hi] 0
      s.mp.pinAsserted = false ∧ s.mp.startUp = false ∧ s.mp.rx.state = .length ∧ s.mp.rx.area = [0xD3, hi] ∧
      decide (4 ≤ n ∧ n ≤ 1020) = x.2.2) ∧
    let covered : List Octet := octets2 4 ++ List.replicate 4 0
    (List.replicate 4 (0 : Octet)).length = 4 ∧ (List.replicate 1020 (0 : Octet)).length = 1020 ∧
    ∀ n ∈ [3, 4], ∃ c o : Octet,
      let s := receiving .check (0xD3 :: (covered ++ [c])) n
      [c, o] = octets2 (crcOf covered).toNat ∧ [c, o + 1] ≠ octets2 (crcOf covered).toNat ∧ s.mp.pinAsserted = false ∧
      s.mp.startUp = false ∧ s.mp.rx.state = .check ∧ s.mp.rx.area = 0xD3 :: (covered ++ [c]) ∧ s.mp.input.length = n := by
  refine ⟨by decide +kernel, by decide +kernel, by decide +kernel, fun n hn =>
    ⟨(crcOf (octets2 4 ++ List.replicate 4 0)).extractLsb' 8 8, (crcOf (octets2 4 ++ List.replicate 4 0)).extractLsb' 0 8, ?_⟩⟩
  revert n
  decide +kernel

/-- A part that owes a reply, of one segment or of two, and a notice. -/
def owing (fields : List Fld) (tx : Option TxFrame) : State :=
  ready.updMp fun m =>
    { m with replies := [{ kind := 0xAB, tag := 1, result := .done, fields := fields }], notices := [⟨.fault, 0, []⟩], tx := tx }

theorem test_witness_Transmitting :
    (ready.mp.pinAsserted = false ∧ ready.mp.tx = none ∧ ready.mp.hold = false ∧ ready.mp.startUp = false ∧ ready.mp.warm ≠ .due) ∧
    (owing [] none).mp.replies ≠ [] ∧ (owing [] none).mp.notices ≠ [] ∧
    (∀ r ∈ (owing [.chars (List.replicate 2000 0)] (some ⟨[], true⟩)).mp.replies, r.segment + 1 < r.segments) ∧
    (∀ r ∈ (owing [] (some ⟨[], true⟩)).mp.replies, r.segments ≤ r.segment + 1) ∧
    (owing [] (some ⟨[], false⟩)).mp.tx = some ⟨[], false⟩ := by decide +kernel

theorem test_witness_StartUpAndResets :
    ready.passes (.reset venue true) = true ∧ ready.passes (.reset venue false) = true ∧
    State.reset.mp.pinAsserted = false ∧ State.reset.mp.startUp = true := by decide +kernel

theorem test_witness_WarmReset :
    let s := lively.updMp fun m => { m with taking := false, warm := .due }
    s.mp.pinAsserted = false ∧ s.mp.warm = .due ∧ (∀ f, (s.feed f).state = .enabled → s.unlicensed f = 0) ∧
    (∀ p, (s.monitor p).locked = true ∨ ∀ f, s.onPort p f = false) ∧ (∀ o, (s.op o).state ≠ .suspended) := by decide +kernel

/-- R173, R183: a suspended operator's report at a warm reset evicts an ACKED entry of a full log. -/
theorem test_warm_reset_evicts :
    let s := ((ready.updOp 7 fun r => { r with state := .suspended }).updMp fun m => { m with warm := .due }).updFu fun fu =>
      { fu with overflow := true, log := (indices 32).map fun f => { newEntry .uplinkOverload (.feed f) .active 0 0 with acked := f = 5 } }
    let t := after .warmReset s
    (t.fu.log.length, t.fu.overflow, t.fu.log.getLast?.map (·.kind), t.fu.log.any (·.source = .feed 5), t.fu.log.any (·.source = .feed 6)) =
      (32, false, some .operatorSuspended, false, true) := by decide +kernel

theorem test_witness_ClockTick : lively.mp.pinAsserted = false := rfl

theorem lively_holds (i : Fin 64) (r : Route) (h : lively.holds i r) : i = 7 ∧ r = ⟨31, 23, 330, true⟩ := by
  have hs : ∀ i, lively.routeSet i = if i = 7 then { way0 := some ⟨31, 23, 330, true⟩ } else {} := by decide +kernel
  unfold State.holds at h
  rw [hs] at h
  split at h
  · simp_all
  · simp at h

theorem lively_tenancy : TenancyLaw lively := by
  have ho : ∀ f, (lively.feed f).state ≠ .free → (lively.feed f).operator = some 7 ∧ (lively.band (lively.feed f).slot).isSome = true := by
    decide +kernel
  have hop : (lively.op 7).state ≠ .undefined := by decide +kernel
  have hs : ∀ o, (lively.op o).state ≠ .suspended := by decide +kernel
  have hm : ∀ f, (lively.feed f).state ≠ .free → (lively.feed f).mutes.operatorSuspended = false ∧
      (lively.feed f).mutes.donorDown = !(lively.monitor (lively.feed f).port).locked := by decide +kernel
  refine ⟨fun f hf => ⟨⟨7, (ho f hf).1, hop⟩, (ho f hf).2⟩, by decide +kernel, by decide +kernel, by decide +kernel,
    fun f hf => ⟨fun o _ => ?_, (hm f hf).2⟩, by decide +kernel, by decide +kernel⟩
  rw [(hm f hf).1, decide_eq_false (hs o)]

theorem lively_routes : RouteLaw lively := by
  refine ⟨fun i r h => ?_, fun i r q h0 h1 => ?_, fun i j r q h g _ _ _ => ?_⟩
  · obtain ⟨rfl, rfl⟩ := lively_holds i r h
    decide +kernel
  · obtain ⟨rfl, -⟩ := lively_holds i r (.inl h0)
    have : (lively.routeSet 7).way1 = none := by decide +kernel
    rw [this] at h1
    exact nomatch h1
  · rw [(lively_holds i r h).2, (lively_holds j q g).2]

theorem lively_migrations : MigrationLaw lively := by
  have hb : ∀ u, lively.blend u = if u = 47 then (blending 1 true .auto).blend 47 else none := by decide +kernel
  have hh : ∀ z, (lively.holdOf z).isSome = false := by decide +kernel
  refine ⟨by decide +kernel, by decide +kernel, by decide +kernel, fun u b h => ?_, by decide +kernel,
    fun z h => absurd h (by rw [hh]; decide), by decide +kernel⟩
  rw [hb] at h
  split at h
  · next hu =>
    subst hu
    have hx : (blending 1 true .auto).blend 47 = some ⟨some 23, 1, 4, 20, true, .auto, 1⟩ := by decide +kernel
    rw [hx] at h
    cases h
    decide +kernel
  · exact nomatch h

theorem lively_layout : LayoutLaw lively := by
  refine ⟨by decide +kernel, by decide +kernel, by decide +kernel, fun n h => ?_⟩
  have : lively.ps.pending = none := rfl
  rw [this] at h
  exact nomatch h

theorem lively_log : LogLaw lively := by
  refine ⟨by decide +kernel, by decide +kernel, by decide +kernel, fun k h => ?_⟩
  cases k <;> revert h <;> decide +kernel

theorem test_witness_WarmReset_log : LogLaw (lively.updMp fun m => { m with taking := false, warm := .due }) := lively_log

theorem lively_latches : LatchLaw lively := ⟨by decide +kernel, by decide +kernel⟩

theorem lively_actions : ActionLaw lively := ⟨by decide +kernel, by decide +kernel, by decide +kernel, by decide +kernel⟩

theorem lively_conditions : ConditionLaw lively := ⟨by decide +kernel, by decide +kernel⟩

theorem lively_figures : FigureLaw lively := by
  have hc : ∀ f, lively.combiner f = lively.combinerNow f := by decide +kernel
  have hm : ∀ u, lively.mixer u = lively.mixerNow u := by decide +kernel
  have hn : ∀ f, (lively.combiner f).required = 0 ∧ (lively.combiner f).noiseCeiling = false ∧
      (lively.combiner f).overload = false := by decide +kernel
  have hp : ∀ u, (lively.mixer u).powerLimit = (lively.serving u && powerExceeds (lively.mixer u).composite (lively.mixer u).smax) ∧
      (lively.mixer u).clip = false := by decide +kernel
  have h0 : ∀ {c : CombinerRec} (n : Nat), c.required = 0 ∧ c.noiseCeiling = false ∧ c.overload = false →
      c.noiseCeiling = decide (n < c.required) := fun n h => by simp [h.1, h.2.1]
  exact ⟨fun f => ⟨hc f, fun _ => h0 _ (hn f), fun _ => (hn f).2⟩, fun u => ⟨hm u, (hp u).1, fun _ => (hp u).2⟩⟩

theorem lively_bands : BandsLaw lively := by
  have h1 : ∀ u, ((lively.unit u).identity.isNone = decide ((lively.unit u).state = .absent)) ∧
      (lively.unit u).mask = bandMask (lively.unit u).identity lively.tu.bands := by decide +kernel
  have h2 : ∀ u, (lively.unit u).state ≠ .absent → (lively.unit u).wanted = lively.neededBands u &&& (lively.unit u).mask := by
    decide +kernel
  have h3 : ∀ u, (lively.unit u).view.bandUnsupported = decide ((lively.unit u).unsupported (lively.neededBands u) ≠ 0) := by
    decide +kernel
  have h4 : ∀ u, (lively.unit u).state = .serving → (lively.unit u).configured = some (lively.unit u).wanted := by decide +kernel
  have h5 : ∀ u, (lively.unit u).configDue = false := by decide +kernel
  intro u
  refine ⟨?_, (h1 u).2, h2 u, h3 u, fun hs hc => absurd (h4 u hs) hc, fun h => ?_⟩
  · rw [← Option.isNone_iff_eq_none, (h1 u).1, decide_eq_true_iff]
  · rw [h5] at h
    exact nomatch h

theorem lively_counts : CountLaw lively := by
  have hm : ∀ u, (lively.measure u) = {} := by decide +kernel
  refine ⟨by decide +kernel, fun u => ?_, by decide +kernel⟩
  rw [hm]
  exact ⟨Nat.le_refl 0, by decide, by decide, fun n h => nomatch h⟩

theorem lively_spreading : SpreadLaw lively := by
  have hh : ∀ z, lively.holdOf z = none := by decide +kernel
  refine ⟨by decide +kernel, by decide +kernel, by decide +kernel, by decide +kernel, by decide +kernel, fun z o h => ?_⟩
  rw [hh] at h
  exact nomatch h

/-- The laws hold in a state with a radiating feed, a route, a blend in reverse, a queued move and a logged fault that mutes and
latches, which a step leaves. -/
theorem test_witness_Safe : Safe lively ∧ ∃ t, step lively = .next t :=
  ⟨⟨lively_tenancy, lively_routes, lively_migrations, lively_layout, lively_log, lively_latches, lively_actions, lively_conditions,
    lively_figures, lively_bands, by refine ⟨?_, ?_, ?_, ?_, ?_, ?_⟩ <;> decide +kernel, lively_counts, lively_spreading⟩, _, rfl⟩

/-- A step leaves a feed that radiates and a unit that is SERVING. -/
theorem test_witness_FiguresAndBandsKept :
    (after .runClockTick lively).radiates 31 = true ∧ (after .runClockTick lively).serving 47 = true ∧
    ((lively.mixer 47).composite, (lively.mixer 47).backoff) = (1000000, 0) := by decide +kernel

/-- Every request of the list passes the checks of MP. -/
def passAll (s : State) (l : List Instr) : Bool := l.all s.passes

theorem test_witness_arithmetic :
    (-270 : Int) ≤ -270 ∧ (31 : Nat) ≤ 31 ∧ (31 : Nat) ≤ 700 ∧ (0 : Nat) < backoffOf 300000 251189 ∧
    powerExceeds 300000 251189 = false ∧ powerExceeds 1995262 1000 = true ∧
    (List.replicate 48 0 : List Nat).length ≤ 48 ∧ (1572864 : Nat) ≤ 1572864 ∧ (0 : Nat) < noiseRise 32769 := by decide +kernel

theorem test_witness_SamplePaths :
    lively.mp.pinAsserted = false ∧ (leased .enabled).radiates 31 = true ∧
    ((leased .defined).feed 31).state ≠ .free ∧ (leased .defined).radiates 31 = false ∧
    serving.serving 47 = true ∧ (serving.unit 47).mutes.isEmpty = true ∧ serving.serving 0 = false := by decide +kernel

/-- Bank 3 in FIXED mode with a home in a zone that is not defined. -/
def spoilt : State := ready.updBank 3 fun b => (b.write (some .fixed) (some [(47, some 23)]) none)

theorem test_witness_SettingsWrite :
    passAll ready [.pollSet venue 100, .pollSet venue 5000, .pollSet venue 99, .pollSet venue 5001, .levelSet venue 1,
      .levelSet venue 65535, .levelSet venue 0, .levelSet venue 65536, .loadSet venue (some 250) none,
      .loadSet venue (some 5000) (some 7), .loadSet venue (some 249) none, .loadSet venue none (some 8),
      .planSelect venue 3, .planSelect venue 4, .planSelectNone venue] = true ∧
    ready.validate (ready.bank 3) = none ∧ passAll spoilt [.planSelect venue 3] = true ∧
    (spoilt.validate (spoilt.bank 3)).isSome = true ∧ (ready.updPs fun p => { p with pending := some 3 }).ps.pending ≠ none ∧
    ready.ps.pending = none := by decide +kernel

theorem test_witness_OperatorSetWrites :
    (∀ st : OperatorState, passAll tenant [.operatorSet venue (opNum 7) (some st) (List.replicate 12 126) 120 63] = true) ∧
    labelOk (List.replicate 12 126) = true ∧ (tenant.op 7).state = .active ∧ (tenant.op 0).state = .undefined ∧
    ((tenant.updOp 7 fun r => { r with state := .suspended }).op 7).state = .suspended ∧
    ∀ f, tenant.belongs 7 f = false := by
  refine ⟨fun st => ?_, by decide +kernel⟩
  cases st <;> decide +kernel

theorem test_witness_BandSetWrites :
    passAll tenant [.bandSet venue 0 (some ⟨400, 0⟩), .bandSet venue 7 (some ⟨1800, -95⟩), .bandSet venue 7 (some ⟨6000, 0⟩),
      .bandSet venue 7 none] = true ∧
    windowOk ⟨400, 0⟩ = true ∧ windowOk ⟨6000, 0⟩ = true ∧ (∀ f, (tenant.feed f).state = .free) ∧
    (tenant.tu.bands.toList.filterMap id) = [⟨1800, -95⟩] ∧ windowsConflict ⟨400, 0⟩ ⟨1800, -95⟩ = false ∧
    tenant.band 0 = none ∧ tenant.band 7 = some ⟨1800, -95⟩ ∧ tenant.band 7 ≠ some ⟨6000, 0⟩ := by decide +kernel

theorem test_witness_LicenceSetWrites :
    passAll (leased .enabled) [.licenceSet venue (opNum 7) 7 0x7FFFFFFF] = true ∧ ((leased .enabled).op 7).state ≠ .undefined ∧
    (leased .enabled).band 7 ≠ none ∧ ((leased .enabled).feed 31).blocks = 0xF0000000 := by decide +kernel

theorem test_witness_FeedDefineWrites :
    passAll tenant [.feedDefine venue 31 (opNum 7) 7 31 1 7 3, .feedDefine venue 31 (opNum 7) 7 0 32 7 3] = true ∧
    (tenant.feed 31).state = .free ∧ ((leased .defined).feed 31).state = .defined ∧ (leased .defined).routed 31 = false ∧
    (tenant.op 7).state ≠ .undefined ∧ tenant.band 7 ≠ none ∧
    (∀ g, g ≠ 31 → (tenant.feed g).state ≠ .free → (tenant.feed g).port = 7 → (tenant.feed g).lane ≠ 3) ∧
    passAll (leased .defined) [.feedDefine venue 31 (opNum 7) 7 31 1 6 0] = true ∧
    ((leased .defined).feed 31).port ≠ 6 ∧ (∀ g, g ≠ 31 → ((leased .defined).feed g).state = .free) ∧
    blockRun 31 1 &&& ~~~(Vector.get (tenant.op 7).licence 7) = 0 ∧
    blockRun 0 32 &&& ~~~(Vector.get (tenant.op 7).licence 7) = 0 := by decide +kernel

/-- Feed 31 DEFINED without the licence for its last block. -/
def narrowed : State := (leased .defined).updOp 7 fun r => { r with licence := Vector.replicate 8 0x7FFFFFFF }

/-- Feed 0 ENABLED on block 31 beside the DEFINED feed 31. -/
def crowded : State :=
  (leased .defined).updFeed 0 fun r =>
    { r with state := .enabled, operator := some 7, slot := 7, firstBlock := 31, blockCount := 1, port := 0, lane := 0 }

theorem test_witness_FeedEnable :
    passAll (leased .defined) [.feedEnableOn venue 31] = true ∧ ((leased .defined).feed 31).state = .defined ∧
    (leased .defined).unlicensed 31 = 0 ∧ (leased .defined).overlapped 31 = false ∧
    passAll narrowed [.feedEnableOn venue 31] = true ∧ (narrowed.feed 31).state = .defined ∧ narrowed.unlicensed 31 ≠ 0 ∧
    passAll crowded [.feedEnableOn venue 31] = true ∧ (crowded.feed 31).state = .defined ∧ crowded.unlicensed 31 = 0 ∧
    crowded.overlapped 31 = true ∧
    passAll (leased .enabled) [.feedEnableOff venue 31] = true ∧ ((leased .enabled).feed 31).state = .enabled := by decide +kernel

theorem test_witness_FeedMuteAndRelease :
    passAll (leased .defined) [.feedMuteOn venue 31, .feedMuteOff venue 31, .feedRelease venue 31] = true ∧
    ((leased .defined).feed 31).state = .defined ∧ (leased .defined).routed 31 = false ∧
    passAll ready [.feedMuteOn venue 0, .feedMuteOff venue 0] = true ∧ (ready.feed 0).state = .free := by decide +kernel

/-- Port 7 with its state, lock input and qualification. -/
def donor (locked high : Bool) : State :=
  (leased .enabled).updMonitor 7 fun _ => { locked := locked, lockInput := high, qual := some 1 }

theorem test_witness_DonorPorts :
    ready.mp.pinAsserted = false ∧ (ready.monitor 7).lockInput ≠ true ∧ ((donor true true).monitor 7).lockInput ≠ false ∧
    (∀ b, ((donor (!b) b).monitor 7).locked ≠ b ∧ ((donor (!b) b).monitor 7).lockInput = b ∧
      ((donor (!b) b).monitor 7).qual ≠ none ∧ (donor (!b) b).mp.pinAsserted = false) := by decide +kernel

theorem test_witness_ZoneDefine :
    passAll housed [.zoneDefineOn venue (zoneNum 23) [], .zoneDefineOn venue (zoneNum 22) [], .zoneDefineOff venue (zoneNum 23)] =
      true ∧ labelOk [] = true ∧ (housed.zone 23).defined = true ∧ (housed.zone 22).defined = false ∧
    housed.routes = [] ∧ (∀ u, housed.isMember u 23 = false) ∧ ∀ (n : BankId) (u : UnitId), Vector.get (housed.bank n).homes u ≠ some 23 := by
  decide +kernel

/-- The set of the key (31, 24) with other keys in it: one way free, or none. -/
def sharedSet (second : Option Route) : State :=
  ((leased .enabled).updZone 23 fun _ => ⟨true, []⟩).updSet 7 fun _ => { way0 := some ⟨0, 22, 0, true⟩, way1 := second }

theorem test_witness_RoutesAreWritten_add :
    passAll routed [.routeAdd venue 31 (zoneNum 23) 330 none, .routeAdd venue 31 (zoneNum 23) (-100) (some (some false))] = true ∧
    levelOk 330 = true ∧ levelOk (-100) = true ∧ (routed.feed 31).state ≠ .free ∧ (routed.zone 23).defined = true ∧
    routed.keySet 31 23 = some 7 ∧ ((routed.routeSet 7).find 31 23).isSome = true ∧
    (∀ x : Bool, let s := sharedSet (if x then some ⟨1, 22, 0, true⟩ else none)
      passAll s [.routeAdd venue 31 (zoneNum 23) 330 none] = true ∧ (s.feed 31).state ≠ .free ∧ (s.zone 23).defined = true ∧
      s.keySet 31 23 = some 7 ∧ (s.routeSet 7).find 31 23 = none ∧ s.conflictIn 31 23 = none ∧
      (s.routeSet 7).freeWay = if x then none else some 1) ∧
    (let s := (routed.updFeed 0 fun _ => routed.feed 31).updZone 23 fun _ => ⟨true, []⟩
     passAll s [.routeAdd venue 0 (zoneNum 23) 330 none] = true ∧ (s.feed 0).state ≠ .free ∧ (s.zone 23).defined = true ∧
     (s.keySet 0 23).isSome = true ∧ (∀ k, (s.routeSet k).find 0 23 = none) ∧ s.conflictIn 0 23 = some 31) := by decide +kernel

theorem test_witness_RoutesAreWritten_level :
    passAll routed [.routeLevel venue 31 (zoneNum 23) 330 none, .routeRemove venue 31 (zoneNum 23),
      .routeLevel venue 31 (zoneNum 22) (-100) none, .routeRemove venue 31 (zoneNum 22)] = true ∧
    (routed.locate 31 23).isSome = true ∧ routed.locate 31 22 = none := by decide +kernel

theorem test_witness_LinkStarts :
    passAll ready [.linkEnable venue 11, .linkEnable venue 12] = true ∧ (ready.link 11).state = .off ∧
    passAll (linked .running) [.linkEnable venue 11] = true ∧ ((linked .running).link 11).state ≠ .off ∧
    (linked .preamble).mp.pinAsserted = false ∧ ((linked .preamble).link 11).state = .preamble ∧
    passAll (linked .loopback) [.linkLoopbackOff venue 11] = true ∧ ((linked .loopback).link 11).state = .loopback := by
  decide +kernel

theorem test_witness_LinkTakenDown :
    passAll lively [.linkDisable venue (11 : LinkId).val, .linkRestart venue (11 : LinkId).val,
      .linkLoopbackOn venue (11 : LinkId).val] = true ∧
    (lively.link 11).state ≠ .off ∧ (lively.link 11).state ≠ .loopback ∧ (lively.link 11).state ≠ .numbering ∧
    (lively.arbiter 11).txn = none ∧ linkOf 47 = 11 ∧ lively.serving 47 = true ∧
    passAll (linked .numbering) [.linkLoopbackOn venue (11 : LinkId).val] = true ∧
    let s (x : Txn) : State := (asking x).updLink 11 fun r => { r with state := .survey }
    let met (x : Txn) : Bool :=
      passAll (s x) [.linkLoopbackOn venue (11 : LinkId).val] && decide (((s x).arbiter 11).txn = some x ∧ ((s x).link 11).state = .survey)
    let survey : Txn := { polling with requester := .survey, kind := .ident, attempt := 1, sent := 0, echoed := 0, window := none }
    met survey = true ∧ (survey.requester = .survey ∧ survey.attempt ≤ 1 ∧ survey.sent = 0) ∧
    met { survey with sent := 1 } = true ∧ met { survey with attempt := 2 } = true ∧
    ∀ r ∈ [Requester.poll, .relay 7, .config 0], met { survey with requester := r } = true ∧ r ≠ .survey := by decide +kernel

/-- R52: a relay outstanding is answered ABSENT, then those queued LINK_STATE, and then the request DONE. -/
theorem test_relays_at_link_down :
    let s := (asking { polling with requester := .relay 7, kind := .relay }).updArbiter 11 fun a =>
      { a with relays := [⟨8, none, [0]⟩, ⟨9, none, [0]⟩] }
    passAll s [.linkDisable venue (11 : LinkId).val] = true ∧ (s.link 11).state ≠ .off ∧
    (after (.linkDisable venue 11) s).mp.replies.map (fun r => (r.kind, r.tag, r.result, r.fields)) =
      [(0x99, 7, .absent, [.o1 1, .o4 0xFFFFFFFF]), (0x99, 8, .linkState, []), (0x99, 9, .linkState, []), (0x92, 1, .done, [])] := by
  decide +kernel

/-- R163: the entries of two units lost in one link-down report are dropped in queue order, behind the units' UNIT notices. -/
theorem test_entries_at_link_down :
    let entry (u : UnitId) : QueueEntry := ⟨u, none, some 23, .venue, false, 0, 0⟩
    let failed := ((linked .running).updUnit 44 fun r => { r with state := .failed }).updUnit 47 fun r => { r with state := .failed }
    let s := failed.updMe fun m => { m with queue := [entry 47, entry 0, entry 44] }
    let t := after (.linkDisable venue 11) s
    t.mp.notices.map (fun n => (n.kind, n.fields.head?)) =
      [(.link, some (.o1 11)), (.unit, some (.o1 44)), (.unit, some (.o1 47)), (.move, some (.o1 47)), (.move, some (.o1 44))] ∧
    t.me.queue = [entry 0] := by decide +kernel

/-- Link 11 in a state with its three runs. -/
def runs (st : LinkState) (good bad zeros : Nat) : State :=
  (linked st).updLink 11 fun r => { r with goodRun := good, badRun := bad, zeroRun := zeros }

theorem test_witness_markers :
    ready.mp.pinAsserted = false ∧
    (∀ st ∈ [LinkState.aligning, .loopback], ((runs st 2 0 0).link 11).state = st ∧ ((runs st 2 0 0).link 11).looped = false ∧
      2 ≤ ((runs st 2 0 0).link 11).goodRun ∧ ((runs st 1 0 0).link 11).goodRun < 2 ∧ (runs st 2 0 0).mp.pinAsserted = false) ∧
    markerGood (.differs 1) = true ∧ markerGood (.differs 2) = false ∧ markerGood .allZero = false ∧
    (∀ st ∈ [LinkState.numbering, .survey, .running], ((runs st 0 2 6).link 11).state = st ∧ (runs st 0 2 6).mp.pinAsserted = false ∧
      ((runs st 0 2 6).link 11).badRun < 3 ∧ ((runs st 0 2 6).link 11).zeroRun < 7 ∧
      (∀ b ∈ [3, 255], ((runs st 0 b 0).link 11).state = st ∧ 3 ≤ ((runs st 0 b 0).link 11).badRun) ∧
      ((runs st 0 3 7).link 11).state = st ∧ 7 ≤ ((runs st 0 3 7).link 11).zeroRun) ∧
    ∀ b ∈ [2, 3, 255], let s := (runs .loopback 0 b 8).updLink 11 fun r => { r with looped := true }
      (s.link 11).looped = true ∧ (s.link 11).state = .loopback ∧ s.mp.pinAsserted = false ∧ (s.link 11).badRun = b := by
  decide +kernel

theorem test_witness_LinkTimersAndTest :
    ∀ n ∈ [17, 16, 5, 4],
    let s := (linked .loopback).updLink 11 fun r => { r with looped := true, alignTimer := some 1, noiseTimer := some 1, noise := n }
    s.mp.pinAsserted = false ∧ (s.link 11).alignTimer ≠ none ∧ (s.link 11).noiseTimer ≠ none ∧ (s.link 11).state = .loopback ∧
    (s.link 11).noise = n := by decide +kernel

theorem test_witness_Numbering :
    let s (n : Nat) : State := (linked .numbering).updLink 11 fun r => { r with attempt := n, numberWait := some 1 }
    (s 2).mp.pinAsserted = false ∧ ((s 2).link 11).state = .numbering ∧ ((s 2).link 11).numberWait ≠ none ∧
    ((s 2).link 11).attempt < 3 ∧ 3 ≤ ((s 3).link 11).attempt := by decide +kernel

/-- A relay of link 11 waits, and the poll of unit 47 is due, or its CONFIG. -/
def waiting (config poll : Bool) (relays : List RelayEntry) (lastPoll : Bool) : State :=
  (serving.updUnit 47 fun r => { r with configDue := config, pollDue := poll, wanted := 0x80 }).updArbiter 11 fun a =>
    { a with relays := relays, lastPoll := lastPoll }

theorem test_witness_ArbiterStarts :
    let e : RelayEntry := ⟨1, none, [0]⟩
    let due (s : State) (p : PosId) : Bool := (s.unit (unitAt 11 p)).configDue
    (waiting true true [e] true).mp.pinAsserted = false ∧ ((waiting true true [e] true).link 11).state = .running ∧
    ((waiting true true [e] true).arbiter 11).txn = none ∧
    due (waiting true true [e] true) 3 = true ∧ (∀ q, q < 3 → due (waiting true true [e] true) q = false) ∧
    (∀ p, due (waiting false true [e] true) p = false) ∧ (waiting false false [e] false).nextPoll 11 = none ∧
    (waiting false true [e] true).nextPoll 11 = some 3 ∧ ((waiting false true [e] true).arbiter 11).lastPoll = true ∧
    ((waiting false true [e] false).arbiter 11).lastPoll = false ∧ ((waiting false true [] true).arbiter 11).relays = [] ∧
    (waiting false true [] true).nextPoll 11 = some 3 := by decide +kernel

theorem test_witness_AttemptWords :
    let s (x : Txn) : State := asking x
    let fresh : Txn := { polling with attempt := 3, sent := 0, echoed := 0, window := none }
    let sent : Txn := { fresh with sent := 1, window := some 1 }
    (s fresh).mp.pinAsserted = false ∧ ((s fresh).link 11).state.carries = true ∧ ((s fresh).arbiter 11).txn = some fresh ∧
    fresh.target = some 3 ∧ fresh.spacing = none ∧ fresh.sent < fresh.data.length + 1 ∧
    (sent.header = none ∧ sent.echoed < sent.sent ∧ isRequestWord (sent.word 11 15 0) = true ∧ ((s sent).link 11).generation = 15 ∧
      sent.replyData = [] ∧ sent.window ≠ none ∧ sent.attempt < 4) ∧
    (isRequestWord (.reqData 15 (.word 0)) = true ∧ .reqData 15 (.word 0) ≠ sent.word 11 15 0) ∧
    ({ fresh with spacing := some 1 } : Txn).spacing ≠ none := by decide +kernel

/-- The same of a request to "all" whose last word returns, of the fourth attempt, and of a reply word to "all". -/
theorem test_witness_AttemptWords_ends :
    let all : Txn := { requester := .relay 7, kind := .relay, target := none, data := [.word 1], attempt := 4, sent := 2, echoed := 1,
                       window := some 1 }
    (asking all).mp.pinAsserted = false ∧ ((asking all).link 11).state.carries = true ∧ ((asking all).arbiter 11).txn = some all ∧
    all.spacing = none ∧ all.target = none ∧ all.echoed = all.data.length ∧ all.echoed < all.sent ∧ all.window ≠ none ∧
    all.attempt = 4 ∧ isRequestWord (all.word 11 15 1) = true ∧ ((asking all).link 11).generation = 15 ∧
    isRequestWord (.reqData 15 (.word 0)) = true ∧ .reqData 15 (.word 0) ≠ all.word 11 15 1 ∧
    (∀ p, all.target = some p → 1 ≠ p.val + 1) ∧
    (let first : Txn := { all with echoed := 0 }
     first.header = none ∧ first.echoed < first.data.length ∧ isRequestWord (first.word 11 15 0) = true) := by decide +kernel

theorem test_witness_AttemptWords_busy :
    ∀ n ∈ [3, 4],
    let met (x : Txn) : Bool :=
      decide (((asking x).arbiter 11).txn = some x ∧ x.spacing = none ∧ x.window ≠ none ∧ x.attempt = n ∧ x.target = some 3 ∧
        ((asking x).link 11).state.carries = true ∧ (asking x).mp.pinAsserted = false)
    let x : Txn := { polling with attempt := n }
    (met x = true ∧ x.echoed = x.data.length + 1 ∧ x.header = none ∧ x.replyData = []) ∧
    (met { x with header := some (true, 1) } = true ∧
      ({ x with header := some (true, 1) } : Txn).header = some (true, x.replyData.length + 1)) ∧
    let y : Txn := { x with echoed := 0, header := some (true, 0) }
    met y = true ∧ y.echoed = y.data.length ∧ y.echoed < y.sent ∧ y.header = some (true, y.replyData.length) ∧
    isRequestWord (y.word 11 15 0) = true ∧ ((asking y).link 11).generation = 15 := by decide +kernel

/-- The survey's IDENT of unit 11.4 in an attempt, with the data words it has had. -/
def identifying (attempt count : Nat) (data : List DataWord) : Txn :=
  { requester := .survey, kind := .ident, target := some 3, data := [], attempt := attempt, sent := 1, echoed := 1,
    header := some (false, count), replyData := data, window := some 1 }

/-- Unit 11.4 is ABSENT and surveyed, as the last position or before another. -/
def surveying (x : Txn) (lastSerial : Word) (toSurvey : List PosId) : State :=
  ((linked .survey).updUnit 47 fun r => { r with lastSerial := lastSerial }).updArbiter 11 fun a =>
    { a with txn := some x, toSurvey := toSurvey }

/-- The hypotheses of SurveyOutcomes at a last serial number and the positions still to survey. -/
def surveyMet (x : Txn) (last : Word) (rest : List PosId) : Bool :=
  let s := surveying x last rest
  let u := s.unit (unitAt 11 3)
  !s.mp.pinAsserted && (s.link 11).state.carries && (s.arbiter 11).txn == some x && u.state == .absent && u.lastSerial == last &&
    decide (s.fu.log.length < 32) && (s.arbiter 11).toSurvey == rest

theorem test_witness_SurveyOutcomes :
    let x := identifying 1 4 [.typeCode 254, .serial 2, .power 400]
    x.echoed = x.data.length + 1 ∧ x.header = some (false, x.replyData.length + 1) ∧ surveyMet x 0 [] = true ∧
    surveyMet x 1 [] = true ∧ surveyMet x 2 [1, 2] = true := by decide +kernel

theorem test_witness_SurveyOutcomes_records :
    let x := identifying 1 4 [.typeCode 254, .serial 2, .power 400]
    let y := identifying 3 4 [.typeCode 255, .serial 2, .power 400]
    x.replyData ++ [.range 100 7000] = .typeCode 254 :: .serial 2 :: .power 400 :: [(100, 7000)].map (fun r => .range r.1 r.2) ∧
    validIdentity (y.replyData ++ [.range 100 7000]) = none ∧ y.attempt < 4 ∧ (identifying 4 0 []).attempt = 4 := by decide +kernel

theorem test_witness_OutcomesOfTransactions :
    let x : Txn :=
      { requester := .config 0x80, kind := .config, target := some 3, data := [.band 7 1800 (-95)], sent := 2, echoed := 2,
        window := some 1 }
    let s := (asking x).updUnit 47 fun r => { r with state := .configuring }
    (s.mp.pinAsserted = false ∧ (s.link 11).state.carries = true ∧ (s.arbiter 11).txn = some x ∧ x.spacing = none ∧
      x.header = none ∧ x.replyData = [] ∧ x.window ≠ none ∧ x.echoed = x.data.length + 1 ∧
      (s.unit (unitAt 11 3)).state = .configuring) ∧
    ((asking x).unit (unitAt 11 3)).state = .serving ∧ ({ x with attempt := 4 } : Txn).attempt = 4 ∧
    (((asking polling).updUnit 47 fun r => { r with state := .failed }).unit (unitAt 11 3)).state = .failed ∧
    (asking polling).serving (unitAt 11 3) = true ∧ polling.spacing = none ∧ polling.window ≠ none ∧
    ({ polling with header := some (false, 1) } : Txn).header = some (false, 1) ∧ polling.echoed = polling.data.length + 1 ∧
    polling.attempt = 4 ∧ (((asking polling).updUnit 47 fun r => { r with missCount := 2 }).unit (unitAt 11 3)).missCount = 2 := by
  decide +kernel

theorem test_witness_UnitSettings :
    serving.mp.pinAsserted = false ∧ (serving.unit 47).pollTimer ≠ none ∧
    passAll serving [.unitSet venue (.index 47) (some 63) (some (-900)) (some 0xFFFFFF), .unitSet venue (.index 0) none (some 0) none,
      .unitMuteOn venue (.index 47), .unitMuteOff venue (.index 47)] = true ∧ (0xFFFFFF : BitVec 32).toNat < 2 ^ 24 := by
  decide +kernel

theorem test_witness_RelayIsQueued :
    let r : RelayEntry := ⟨1, none, [0]⟩
    (∀ n ∈ [1, 16], passAll serving [.unitRelay venue (11 : LinkId).val (.one 4) (List.replicate n 0)] = true) ∧
    relayTarget (.one 4) = some (some 3) ∧ relayTarget .all = some none ∧ ((linked .survey).link 11).state ≠ .running ∧
    passAll (linked .survey) [.unitRelay venue (11 : LinkId).val .all [0]] = true ∧
    (serving.link 11).state = .running ∧ serving.targetAbsent 11 (some 2) = true ∧ serving.targetAbsent 11 (some 3) = false ∧
    ((waiting false false [r, r, r] false).arbiter 11).relays.length < 4 ∧
    4 ≤ ((waiting false false [r, r, r, r] false).arbiter 11).relays.length ∧
    passAll serving [.unitRelay venue 12 .all [0], .unitRelay venue 0 (.one 0) [0], .unitRelay venue 0 (.one 5) [0],
      .unitRelay venue 0 .all [], .unitRelay venue 0 .all (List.replicate 17 0)] = true := by decide +kernel

theorem test_witness_RelayIsQueued_ends :
    let x : Txn :=
      { requester := .relay 7, kind := .relay, target := some 3, data := [.word 1], sent := 2, echoed := 2, attempt := 4,
        header := some (false, 2), replyData := [.word 5], window := some 1 }
    let y : Txn := { x with target := none, header := none, replyData := [], echoed := 1, window := none }
    (asking x).mp.pinAsserted = false ∧ ((asking x).link 11).state.carries = true ∧ ((asking x).arbiter 11).txn = some x ∧
    x.spacing = none ∧ x.window ≠ none ∧ x.echoed = x.data.length + 1 ∧ x.header = some (false, [5].length + 1) ∧
    x.replyData = [(5 : Word)].map .word ∧ x.attempt = 4 ∧
    y.target = none ∧ y.echoed = y.data.length ∧ y.echoed < y.sent ∧ isRequestWord (y.word 11 15 1) = true ∧
    (∀ z : Txn, z ∈ [y, { x with header := none, replyData := [] }, { x with echoed := 1, header := some (false, 1) },
        { x with target := none }] →
      (asking z).mp.pinAsserted = false ∧ ((asking z).link 11).state.carries = true ∧ ((asking z).arbiter 11).txn = some z ∧
      z.requester = .relay 7 ∧ z.kind = .relay ∧ z.spacing = none ∧ z.attempt = 4) ∧
    (let z : Txn := { x with echoed := 1, header := some (false, 1) }
     z.target ≠ none ∧ z.echoed = z.data.length ∧ z.echoed < z.sent ∧ z.header = some (false, [(5 : Word)].length) ∧
     z.replyData = [(5 : Word)].map .word ∧ isRequestWord (z.word 11 15 1) = true ∧
     isRequestWord (.reqData 15 (.word 0)) = true ∧ .reqData 15 (.word 0) ≠ z.word 11 15 1) := by decide +kernel

/-- The Load Monitor at the end of a period, unit 47 with two windows measured and one busy. -/
def measured (pending : Option BankId) : State :=
  ((housed.updMeasure 47 fun m => { m with measured := 2, busy := 1 }).updLm fun m => { m with timer := some 1 }).updPs fun p =>
    { p with pending := pending }

theorem test_witness_LoadIsMeasured :
    (measured none).mp.pinAsserted = false ∧ (measured none).lm.timer ≠ none ∧ (measured none).serving 47 = true ∧
    0 < ((measured none).measure 47).measured ∧ (measured none).ps.pending = none ∧ (measured (some 3)).ps.pending = some 3 ∧
    (measured (some 3)).blend 47 = none ∧ (measured (some 3)).blend 0 = none ∧
    (measured (some 3)).home 47 ≠ Vector.get ((measured (some 3)).bank 3).homes 47 ∧ (measured (some 3)).serving 47 = true ∧
    (measured (some 3)).home 0 = Vector.get ((measured (some 3)).bank 3).homes 0 ∧
    (measured (some 3)).validate ((measured (some 3)).bank 3) = none ∧
    (((measured (some 3)).setBlend 47 ((blending 1 false .auto).blend 47)).blend 47).isSome = true := by decide +kernel

/-- Feed 31 and unit 47 at the end of a period with a count each, both raised above their limit or not, NEW in the log. -/
def judging (count : Nat) (raised : Bool) : State :=
  (((lively.updCombiner 31 fun c => { c with saturations := count, overload := raised }).updMixer 47 fun m =>
    { m with clips := count, clip := raised }).updUnit 47 fun r => { r with mutes := {} }).updFu fun fu =>
    { fu with log := [newEntry .uplinkOverload (.feed 31) .active 0 0, newEntry .downlinkClip (.unit 47) .active 0 0] }

theorem test_witness_LoadIsMeasured_judgments :
    (∀ x : Nat × Bool, x ∈ [(101, false), (100, false), (24, true), (25, true)] →
      let s := (judging x.1 x.2).updLm fun m => { m with timer := some 1 }
      s.mp.pinAsserted = false ∧ s.lm.timer ≠ none ∧ s.le.limit = 100 ∧ s.radiates 31 = true ∧ s.serving 47 = true ∧
      (s.unit 47).mutes.isEmpty = true ∧ (s.combiner 31).overload = x.2 ∧ (s.mixer 47).clip = x.2 ∧
      (s.combiner 31).saturations = x.1 ∧ (s.mixer 47).clips = x.1 ∧ ∀ e ∈ s.fu.log, e.acked = false) ∧
    let still := (judging 101 false).updFeed 31 fun r => { r with mutes := { issuerMute := true } }
    (still.feed 31).state = .enabled ∧ still.radiates 31 = false ∧ (lively.unit 47).mutes.isEmpty = false := by decide +kernel

/-- R97, R102: with no entry yet and room for two, both are logged with their count. -/
theorem test_witness_LoadIsMeasured_first :
    let s := ((judging 101 false).updLm fun m => { m with timer := some 1 }).updFu fun fu => { fu with log := [] }
    let t := after .evaluationPeriodExpiry s
    s.fu.log.length + 2 ≤ 32 ∧
    t.fu.log.map (fun e => (e.kind, e.active, e.detail)) = [(.uplinkOverload, true, 101), (.downlinkClip, true, 101)] := by
  decide +kernel

theorem test_witness_LoadIsMeasured_log : LogLaw (judging 101 false) := by
  refine ⟨by decide +kernel, by decide +kernel, by decide +kernel, fun k h => ?_⟩
  cases k <;> revert h <;> decide +kernel

theorem test_witness_LoadArithmetic :
    ([1] : List (BitVec 8)).length = [3].length ∧ (∀ c ∈ [3], c ≤ 3) ∧ (2 : Nat) < [3].getD 0 0 ∧
    ((0 : Nat) < 1 ∧ 1 ≤ 1 * 2 ^ 31 ∧ 1 < 1 * 2 ^ 30 ∧ windowPower 1 1 = -903) ∧ (1 * 2 ^ 30 ≤ 2 ^ 31 ∧ 2 ^ 31 ≤ 1 * 2 ^ 31) ∧
    (windowPower 1 20 = -999 ∧ windowPower (2 ^ 31) 1 = 30) := by decide +kernel

/-- The Spread Engine at work with a HOT zone, or with none. -/
def spreading (hot : Bool) : State :=
  ((housed.updLoad 23 fun r => { r with temp := if hot then .hot else .normal }).updMe fun m =>
    { m with params := { m.params with auto := true } }).updSe fun e =>
    { e with working := true, timer := some 1, named := if hot then [23] else [] }

theorem test_witness_SpreadRounds :
    (spreading true).mp.pinAsserted = false ∧ (spreading true).se.working = true ∧ (spreading true).se.named ≠ [] ∧
    (spreading true).se.timer ≠ none ∧ (spreading true).hotZones = [23] ∧ (spreading false).se.timer ≠ none ∧
    (spreading false).hotZones = [] := by decide +kernel

/-- Units 46 and 47 are SERVING at home in zone 24, which is HOT, and may go to zone 1, which is COOL, or nowhere. -/
def packed (target : Bool) : State :=
  let s := ((spreading true).updUnit 46 fun _ => housed.unit 47).mapUnits (fun u => linkOf u = 11) fun _ r =>
    { r with eligible := if target then 1 else 0 }
  let s := ((s.setHome 46 (some 23)).setHome 47 (some 23)).updLoad 0 fun r => { r with temp := .cool }
  (s.updPs fun p => { p with banks := p.banks.map fun b => { b with marks := b.marks.map fun m => { m with auto := true } } }).updMeasure 47
    fun m => { m with estimate := 700 }

/-- R122, R125: the unit with the higher estimate moves and its blend starts, or both have been tried. -/
theorem test_witness_SpreadRounds_search :
    (let t := after .hotZoneRound (packed true)
     t.se.round.map (·.outcomes) = some [(23, .moved 47 0)] ∧ (t.blend 47).map (fun b => (b.target, b.p, b.source)) = some (some 0, 0, .auto)) ∧
    (after .hotZoneRound (packed false)).se.round.map (·.outcomes) = some [(23, .noTarget 2 none)] ∧
    (packed true).mp.pinAsserted = false ∧ (packed true).se.working = true ∧ (packed true).se.named ≠ [] ∧
    (packed true).me.queue = [] ∧ (packed true).inFlight < (packed true).me.params.conc ∧ ((packed true).zone 0).defined = true := by
  decide +kernel

theorem test_witness_PlanWrites :
    let homes : List (UnitRef × Nat) := [(.index 47, 24), (.lp 0 1, 0)]
    let marks (low : Nat) : List MarkEntry := [⟨24, 10000, low, 1, 1, some true⟩]
    passAll ready [.planWrite venue 3 (some (some .fixed)) (some homes) (some (marks 0)),
      .planWrite venue 0 none none none, .planWrite venue 3 none none (some (marks 10000))] = true ∧
    (partOf homesOf (some homes)).isSome = true ∧ (∀ n ∈ [0, 10000], (partOf marksOf (some (marks n))).isSome = true) ∧
    ((venue.lengthOk = true ∧ ({ venue with formOk := false } : Hdr).formOk = false) ∧ ready.canTake = true ∧
      ready.admits { venue with formOk := false } .venue = true) ∧ ready.ps.active = 0 ∧ ready.ps.active ≠ 3 ∧ ready.ps.pending ≠ some 3 ∧
    (∀ z, (Vector.get ((ready.bank 3).write none none (marksOf (marks 0))).marks z).ordered = true) ∧
    (Vector.get ((ready.bank 3).write none none (marksOf (marks 10000))).marks 23).ordered = false ∧
    ∀ y, y < 23 → (Vector.get ((ready.bank 3).write none none (marksOf (marks 10000))).marks y).ordered = true := by decide +kernel

theorem test_witness_ZoneHolds :
    whoOf venue = some none ∧ whoOf ⟨1, 8, true, true⟩ = some (some 7) ∧ (housed.zone 23).defined = true ∧
    (let s := { blending 1 false .auto with tu := tenant.tu }
     passAll s [.zoneHold venue (zoneNum 23), .zoneHold ⟨1, 8, true, true⟩ (zoneNum 23)] = true ∧ s.holdOf 23 = none ∧
     touches 23 (s.home 47) (some 23) = true) ∧
    let s := { housed.setHold 23 (some (some 7)) with tu := tenant.tu }
    passAll s [.zoneHold venue (zoneNum 23), .zoneRelease venue (zoneNum 23), .zoneRelease ⟨1, 8, true, true⟩ (zoneNum 23)] = true ∧
    s.holdOf 23 = some (some 7) ∧ whoOf venue ≠ some (some 7) := by decide +kernel

theorem test_witness_ZoneHolds_release :
    let s := { (housed.setHold 23 (some none)) with tu := tenant.tu }
    passAll s [.zoneRelease ⟨1, 8, true, true⟩ (zoneNum 23)] = true ∧ s.holdOf 23 = some none ∧
    whoOf ⟨1, 8, true, true⟩ ≠ some none := by decide +kernel

theorem test_witness_ZoneHolds_law : MigrationLaw (blending 0 false .auto) ∧ MigrationLaw (blending 1 false .auto) := by
  have law (p : Nat) (hp : p < 4) (h : ∀ u, (blending p false .auto).blend u = if u = 47 then
      some ⟨some 23, p, 4, 20, false, .auto, 1⟩ else none) (hh : (blending p false .auto).inFlight ≤ 4)
      (ha : ∀ z, (blending p false .auto).autoFrom z ≤ 1) : MigrationLaw (blending p false .auto) := by
    have hz : ∀ z, ((blending p false .auto).holdOf z).isSome = false := by
      have : ∀ z, ((blending 0 false .auto).holdOf z).isSome = false := by decide +kernel
      exact this
    have hs : (blending p false .auto).serving 47 = true ∧ (blending p false .auto).home 47 = some 0 := by
      have : (blending 0 false .auto).serving 47 = true ∧ (blending 0 false .auto).home 47 = some 0 := by decide +kernel
      exact this
    have hc : 1 ≤ (4 : Nat) ∧ (4 : Nat) ≤ 8 ∧ 4 ≤ (12 : Nat) ∧ (12 : Nat) ≤ 30 := by decide
    refine ⟨hc, List.nodup_nil, fun e he => (List.not_mem_nil he).elim, fun u b hb => ?_, hh,
      fun z h => absurd h (by rw [hz]; decide), ha⟩
    rw [h] at hb
    split at hb
    · next hu =>
      subst hu
      cases hb
      exact ⟨hs.1, by rw [hs.2]; exact (by decide : (some 23 : Home) ≠ some 0), hp, (by decide : (4 : Nat) ≤ 30), fun h => nomatch h⟩
    · exact nomatch hb
  exact ⟨law 0 (by decide) (by decide +kernel) (by decide +kernel) (by decide +kernel),
    law 1 (by decide) (by decide +kernel) (by decide +kernel) (by decide +kernel)⟩

theorem test_witness_MoveAndAbort :
    (passAll housed [.move venue (.index (47 : UnitId).val) (zoneNum 23) (some true)] = true ∧ housed.activeBank.mode = .seed ∧
      (housed.zone 23).defined = true ∧ housed.me.queue = [] ∧ housed.blend 47 = none ∧ housed.home 47 ≠ some 23 ∧
      housed.serving 47 = true ∧ housed.liveCount 23 < 16 ∧ housed.inFlight < housed.me.params.conc ∧
      housed.isHeld (housed.home 47) = false ∧ housed.holdOf 23 = none ∧ housed.eligibleFor 47 23 = false ∧
      (housed.updUnit 47 fun r => { r with eligible := 0x800000 }).eligibleFor 47 23 = true) ∧
    passAll (queued .venue 0) [.moveAbort venue (.index (47 : UnitId).val)] = true ∧ (queued .venue 0).isQueued 47 = true ∧
    passAll (blending 1 false .venue) [.moveAbort venue (.index (47 : UnitId).val)] = true ∧
    (blending 1 false .venue).isQueued 47 = false ∧ ((blending 1 false .venue).blend 47).isSome = true ∧
    passAll housed [.moveAbort venue (.index (47 : UnitId).val)] = true ∧ housed.isQueued 47 = false := by decide +kernel

theorem test_witness_BlendSteps :
    (∀ p : Fin 4, ∀ r, (blending p.val r .venue).mp.pinAsserted = false ∧
      ((blending p.val r .venue).blend 47).map (fun b => (b.p, b.depth, b.reverse)) = some (p.val, 4, r)) ∧
    (blending 3 false .venue).me.queue = [] ∧ (blending 3 false .venue).activeBank.mode = .seed ∧ (2 : Nat) + 1 < 4 ∧ 4 ≤ 3 + 1 := by
  decide +kernel

theorem test_witness_SpreadSetAndRetry :
    let s := blending 1 false .venue
    passAll s [.spreadSet venue (some (some true)) (some 1) (some 30) (some 2000) (some 120),
      .spreadSet venue none (some 8) (some 4) (some 20) (some 2)] = true ∧
    within 1 8 (some 1) = true ∧ within 4 30 (some 30) = true ∧ within 20 2000 (some 2000) = true ∧ within 2 120 (some 120) = true ∧
    s.inFlight = 1 ∧ (s.setBlend 0 (s.blend 47)).inFlight = 2 ∧
    (let t := queued .venue 2
     t.mp.pinAsserted = false ∧ t.me.retry ≠ none ∧ t.me.queue.map (fun e => (e.unit, e.target, e.source, e.deferrals)) =
       [(47, some 23, .venue, 2)] ∧ t.isHeld (some 0) = false ∧ t.holdOf 23 = none ∧ t.serving 47 = true ∧
     (t.zone 23).defined = true ∧ t.inFlight < t.me.params.conc ∧ t.liveCount 23 < 16) ∧
    16 ≤ ((indices 16).foldl (fun x u => (x.setHome (u.castLE (by decide)) (some 23)).updUnit (u.castLE (by decide)) fun r =>
      { r with state := .serving }) (queued .venue 2)).liveCount 23 := by decide +kernel

theorem test_witness_FaultPolicies :
    (∀ k ∈ [FaultKind.linkNoAlign, .operatorSuspended], ∀ b, passAll ready [.faultPolicy venue (.one k.code) (some true) (some b) (some b),
      .faultPolicyDefaults venue (.one k.code)] = true) ∧ passAll ready [.faultPolicyDefaults venue .all] = true ∧
    FaultKind.unitVswr.notifyOnly = false ∧ FaultKind.operatorSuspended.notifyOnly = true := by decide +kernel

/-- The log holds one entry of UNIT_VSWR for unit 47. -/
def logged (active : Bool) : State :=
  ready.updFu fun fu => { fu with log := [{ newEntry .unitVswr (.unit 47) .active 0 0 with active := active }], overflow := true }

theorem test_witness_FaultAckAndClear :
    let name := FaultName.one FaultKind.unitVswr.code (Source.unit 47).num
    (Source.unit 47).cls = FaultKind.unitVswr.cls ∧
    (∀ b, passAll (logged b) [.faultAck venue .all, .faultAck venue name, .faultClear venue name] = true ∧
      ((logged b).fu.find .unitVswr (.unit 47)).map (fun e => (e.latch, e.active)) = some (false, b) ∧
      (logged b).fu.actions = []) ∧
    passAll ready [.faultAck venue name, .faultAck venue (.one 0 0), .faultAck venue (.one 22 0),
      .faultAck venue (.one FaultKind.unitVswr.code 48)] = true ∧ ready.fu.find .unitVswr (.unit 47) = none ∧
    ∀ u : UnitId, (Source.unit u).num ≠ 48 := by decide +kernel

/-- An entry with a latch and an action record, the CONDITION still there or an OCCURRENCE. -/
def latched (active : Bool) : State :=
  { lively with fu := { lively.fu with
      log := [{ newEntry .unitVswr (.unit 47) .occurred 0 0 with active := active, latch := true }]
      actions := [⟨.unitVswr, .unit 47, !active⟩] } }

theorem test_witness_FaultAckAndClear_latches :
    ∀ b, (LogLaw (latched b) ∧ LatchLaw (latched b) ∧ ActionLaw (latched b)) ∧
      passAll (latched b) [.faultClear venue (.one FaultKind.unitVswr.code (Source.unit 47).num), .faultClear venue .all] = true ∧
      ((latched b).fu.find .unitVswr (.unit 47)).map (fun e => (e.latch, e.active)) = some (true, b) := by
  intro b
  refine ⟨⟨⟨?_, ?_, ?_, fun k h => ?_⟩, ⟨?_, ?_⟩, ⟨?_, ?_, ?_, ?_⟩⟩, ?_, ?_⟩ <;> cases b <;>
    first | (cases k <;> revert h <;> decide +kernel) | decide +kernel

/-- A log that is full, of entries that are inactive and ACKED, or active. -/
def fullLog (active : Bool) : FaultUnit :=
  { log := (indices 32).map fun f => { newEntry .uplinkOverload (.feed f) .occurred 0 0 with active := active, acked := true } }

theorem test_witness_ReportIsLogged :
    (∃ e ∈ (logged true).fu.log, e.names .unitVswr (.unit 47) = true) ∧ (∀ e ∈ ready.fu.log, e.names .unitVswr (.unit 47) = false) ∧
    ready.fu.log.length < 32 ∧
    (∀ b, (∀ e ∈ (fullLog b).log, e.names .unitVswr (.unit 47) = false) ∧ 32 ≤ (fullLog b).log.length) ∧
    (∀ e ∈ (fullLog true).log, (fullLog true).evictable e = false) ∧ ∃ v ∈ (fullLog false).log, (fullLog false).evictable v = true := by
  decide +kernel

theorem test_witness_ReportIsLogged_laws :
    LogLaw lively ∧ ActionLaw lively ∧ LatchLaw lively ∧ (Source.unit 47).cls = FaultKind.unitVswr.cls :=
  ⟨lively_log, lively_actions, lively_latches, rfl⟩

theorem test_witness_ReportIsLogged_ties :
    let s (noisy : Bool) (n : Nat) : State := (linked .loopback).updLink 11 fun r =>
      { r with looped := true, alignTimer := some 1, noiseTimer := some 1, noise := n, view := { noisy := noisy } }
    (s false 17).mp.pinAsserted = false ∧ ((s false 17).link 11).alignTimer ≠ none ∧ ((s false 17).link 11).view.noAlign = false ∧
    ((s false 17).link 11).noiseTimer ≠ none ∧ ((s false 17).link 11).view.noisy = !true ∧ 16 < ((s false 17).link 11).noise ∧
    ((s true 4).link 11).view.noisy = !false ∧ ((s true 4).link 11).noise ≤ 4 ∧ ((s true 4).link 11).state = .loopback ∧
    ((s true 4).link 11).looped = true ∧ (1 : Word).toNat ≠ ((s true 4).link 11).testCounter := by decide +kernel

theorem test_witness_reads :
    passAll routed [.status venue, .ident venue, .operatorRead venue (.one 8), .operatorRead venue .all, .bandRead venue,
      .feedRead venue (.one 31), .zoneRead venue (.one 24), .linkRead venue (.one 11), .planRead venue (.one 3),
      .routeRead venue (.key 31 24), .routeRead venue (.set 63), .unitRead venue (.unit (.index 47)), .unitRead venue (.link 11),
      .levelRead venue (.feed 31), .levelRead venue .feeds, .levelRead venue .units, .loadRead venue (.zone 24),
      .loadRead venue .units, .loadRead venue .zones, .loadRead venue .spread, .queueRead venue, .faultRead venue .all,
      .faultRead venue (.kind 21), .faultRead venue (.source (some .operator) 8), .faultRead venue .policy,
      .faultRead venue (.kindSource 21 8)] = true ∧ (Source.operator 7).cls = FaultKind.operatorSuspended.cls := by decide +kernel

end Sys2Proof.Tests
end

