-- ==== Sys2Proof/Proofs/LevelArithmetic.lean ====
section
/-! The fixed tables of the Level Engine as rounded formulas (R91), and the noise sum and the noise rise read from
them (R94). -/

namespace Sys2Proof.Machine

/-! ### Rounded entries (R91)

That `n` is `x` rounded, halves up, says `2 n − 1 ≤ 2 x < 2 n + 1`. For `(2 x)^k * b = a` this is stated without roots as
`(2 n − 1)^k * b ≤ a < (2 n + 1)^k * b`. The tables are finite, so their entries are checked one by one. -/

theorem weightW_rounded : ∀ c < 128,
    (2 * weightW c - 1) ^ 40 * 10 ^ c ≤ 65536 ^ 40 ∧ 65536 ^ 40 < (2 * weightW c + 1) ^ 40 * 10 ^ c := by
  decide +kernel

theorem weightQ_rounded : ∀ c < 128,
    (2 * weightQ c - 1) ^ 20 * 10 ^ c ≤ 65536 ^ 20 ∧ 65536 ^ 20 < (2 * weightQ c + 1) ^ 20 * 10 ^ c := by
  decide +kernel

theorem thresholdT_rounded : ∀ n < 201,
    (2 * thresholdT n - 1) ^ 100 ≤ 65536 ^ 100 * 10 ^ n ∧ 65536 ^ 100 * 10 ^ n < (2 * thresholdT n + 1) ^ 100 := by
  decide +kernel

theorem scaleF_rounded : ∀ b < 41,
    (2 * scaleF b - 1) ^ 20 * 10 ^ b ≤ 131072 ^ 20 ∧ 131072 ^ 20 < (2 * scaleF b + 1) ^ 20 * 10 ^ b := by
  decide +kernel

/-- A value not below `m − 1/2` and below `n + 1/2` puts `m` at most `n`; used both ways, rounding is unique. -/
theorem le_of_rounded {k a b m n : Nat} (hm : (2 * m - 1) ^ k * b ≤ a) (hn : a < (2 * n + 1) ^ k * b) : m ≤ n := by
  have hpow : (2 * m - 1) ^ k < (2 * n + 1) ^ k := Nat.lt_of_mul_lt_mul_right (Nat.lt_of_le_of_lt hm hn)
  have hbase : 2 * m - 1 < 2 * n + 1 :=
    Nat.lt_of_not_le fun hle => Nat.not_le.mpr hpow (Nat.pow_le_pow_left hle k)
  omega

/-- Q[c] and W[2c] round the same value: the bounds of Q[c], squared, are those of W[2c]. -/
theorem weightQ_eq_weightW_double {c : Nat} (hc : c ≤ 63) : weightQ c = weightW (2 * c) := by
  obtain ⟨hWlo, hWhi⟩ := weightW_rounded (2 * c) (by omega)
  obtain ⟨hQlo, hQhi⟩ := weightQ_rounded c (by omega)
  have square (x : Nat) : (x ^ 20 * 10 ^ c) ^ 2 = x ^ 40 * 10 ^ (2 * c) := by
    rw [Nat.mul_pow, ← Nat.pow_mul, ← Nat.pow_mul, Nat.mul_comm c 2]
  have hQlo' := Nat.pow_le_pow_left hQlo 2
  have hQhi' := Nat.pow_lt_pow_left hQhi (n := 2) (by decide)
  rw [square] at hQlo' hQhi'
  exact Nat.le_antisymm (le_of_rounded hQlo' hWhi) (le_of_rounded hWlo hQhi')

theorem weightQ_eq_zero {c : Nat} (hc : 97 ≤ c) : weightQ c = 0 := by
  have hout : tableQ[c]? = none := List.getElem?_eq_none hc
  rw [weightQ, hout, Option.getD_none]

theorem weightQ_le (c : Nat) : weightQ c ≤ 32768 := by
  rcases Nat.lt_or_ge c 97 with hc | hc
  · exact (by decide +kernel : ∀ c < 97, weightQ c ≤ 32768) c hc
  · rw [weightQ_eq_zero hc]
    exact Nat.zero_le _

theorem thresholdT_first : thresholdT 0 = 32768 := rfl

theorem thresholdT_last : thresholdT 200 = 3276800 := rfl

/-- Settles O22: the four tables entry by entry, Q[c] = W[2c] from the uniqueness of rounding. -/
theorem tablesAreRounded : Obligations.TablesAreRounded :=
  ⟨fun c => weightW_rounded c c.isLt, fun c => weightQ_rounded c c.isLt, fun n => thresholdT_rounded n n.isLt,
    fun b => scaleF_rounded b b.isLt, fun _ => weightQ_eq_weightW_double, fun _ => weightQ_eq_zero,
    thresholdT_first, thresholdT_last, by decide⟩

/-! ### The noise sum (R94) -/

theorem noiseSum_eq_sum (codes : List Nat) : noiseSum codes = (codes.map weightQ).sum :=
  List.sum_eq_foldl.symm

theorem noiseSum_nil : noiseSum [] = 0 := rfl

theorem noiseSum_cons (c : Nat) (codes : List Nat) : noiseSum (c :: codes) = weightQ c + noiseSum codes := by
  rw [noiseSum_eq_sum, noiseSum_eq_sum, List.map_cons, List.sum_cons]

theorem noiseSum_le_length_mul (codes : List Nat) : noiseSum codes ≤ codes.length * 32768 := by
  induction codes with
  | nil => exact Nat.zero_le _
  | cons c codes ih =>
    have hc := weightQ_le c
    rw [noiseSum_cons, List.length_cons]
    omega

theorem noiseSum_replicate (n c : Nat) : noiseSum (List.replicate n c) = n * weightQ c := by
  rw [noiseSum_eq_sum, List.map_replicate, List.sum_replicate_nat]

theorem State.combinerNow_sum (s : State) (f : FeedId) :
    (s.combinerNow f).sum = noiseSum ((s.combinerNow f).set.map (·.code)) := rfl

theorem State.combinerNow_nr (s : State) (f : FeedId) :
    (s.combinerNow f).nr = noiseRise (s.combinerNow f).sum := rfl

/-! ### The noise rise (R94) -/

theorem length_tableT : tableT.length = 201 := by decide +kernel

theorem thresholdT_eq_getElem {n : Nat} (hn : n < tableT.length) : thresholdT n = tableT[n] := by
  rw [thresholdT, List.getElem?_eq_getElem hn, Option.getD_some]

theorem noiseRise_le (sum : Nat) : noiseRise sum ≤ 200 := Nat.min_le_left _ _

theorem thresholdT_lt_of_lt_noiseRise {sum n : Nat} (hn : n < noiseRise sum) : thresholdT n < sum := by
  obtain ⟨hlast, hbefore⟩ := Nat.lt_min.mp hn
  have hfails := List.not_of_lt_findIdx hbefore
  rw [thresholdT_eq_getElem (by rw [length_tableT]; omega)]
  exact Nat.lt_of_not_le (of_decide_eq_false hfails)

theorem noiseRise_le_of_le_thresholdT {sum n : Nat} (h : sum ≤ thresholdT n) : noiseRise sum ≤ n :=
  Nat.le_of_not_lt fun hlt => Nat.not_lt.mpr h (thresholdT_lt_of_lt_noiseRise hlt)

/-- Where the last threshold reaches the sum, the search stops inside the table, at an entry that reaches it. -/
theorem le_thresholdT_noiseRise {sum : Nat} (h : sum ≤ thresholdT 200) : sum ≤ thresholdT (noiseRise sum) := by
  have hfound : tableT.findIdx (fun t => sum ≤ t) < tableT.length :=
    List.findIdx_lt_length_of_exists ⟨thresholdT 200, by decide +kernel, decide_eq_true h⟩
  have hrise : noiseRise sum = tableT.findIdx fun t => sum ≤ t := by
    rw [length_tableT] at hfound
    exact Nat.min_eq_right (Nat.le_of_lt_succ hfound)
  rw [hrise, thresholdT_eq_getElem hfound]
  exact of_decide_eq_true (List.findIdx_getElem (w := hfound))

theorem noiseRise_eq_zero {sum : Nat} (h : sum ≤ 32768) : noiseRise sum = 0 :=
  Nat.le_zero.mp (noiseRise_le_of_le_thresholdT h)

/-- Settles O23: the sum is bounded weight by weight, and the search for the noise rise stops at its first threshold. -/
theorem noiseRiseIsLeast : Obligations.NoiseRiseIsLeast := by
  refine ⟨fun codes => ⟨noiseSum_eq_sum codes, fun hlen => ?bound⟩, noiseSum_nil, noiseSum_replicate 48 0,
    fun s f => ⟨s.combinerNow_sum f, s.combinerNow_nr f⟩, fun sum hsum => ?least, fun _ => noiseRise_eq_zero,
    by decide +kernel⟩
  case bound =>
    have hsum := noiseSum_le_length_mul codes
    omega
  case least =>
    have hlast : sum ≤ thresholdT 200 := by rw [thresholdT_last]; omega
    exact ⟨noiseRise_le sum, le_thresholdT_noiseRise hlast, fun _ => thresholdT_lt_of_lt_noiseRise⟩

end Sys2Proof.Machine
end
